-- ==== Sys2Proof/Word.lean ====
section
/-! DEFINITION. The two word sizes of the SM83 (00_scope.md R3, R5): a byte and a 16-bit word. -/

namespace Sys2Proof

/-- An 8-bit value: register contents, memory bytes (00_scope.md R5). -/
abbrev Byte := BitVec 8

/-- A 16-bit value: addresses, register pairs, SP, PC (00_scope.md R5). -/
abbrev Word := BitVec 16

end Sys2Proof
end

