-- ==== Sys2Proof/Machine/Bits.lean ====
section
/-! DEFINITION. Halves, concatenation and sign extension of values (00_scope.md R5, R7) and the fields
of an opcode byte (30_encoding.md R81). -/

namespace Sys2Proof.Machine

/-- `hi(w)` is `w[15:8]` (00_scope.md R5). -/
def hi (w : Word) : Byte := BitVec.ofNat 8 (w.toNat / 256)

/-- `lo(w)` is `w[7:0]` (00_scope.md R5). -/
def lo (w : Word) : Byte := BitVec.ofNat 8 w.toNat

/-- `{h, l}`: the word with high byte `h` and low byte `l`, `256*h + l` (00_scope.md R5). -/
def cat (h l : Byte) : Word := BitVec.ofNat 16 (256 * h.toNat + l.toNat)

/-- `signed(b)`: `b` if `b < 128`, else `b - 256` (00_scope.md R7). -/
def signed (b : Byte) : Int := if b.toNat < 128 then (b.toNat : Int) else (b.toNat : Int) - 256

/-- `sext_16(b)`: `b` if `b[7] = 0`, else `b + 0xFF00` (00_scope.md R7). -/
def sext16 (b : Byte) : Word :=
  if b.getLsbD 7 then BitVec.ofNat 16 (b.toNat + 0xFF00) else BitVec.ofNat 16 b.toNat

/-- `zext_16(b)`: the same integer (00_scope.md R7). -/
def zext16 (b : Byte) : Word := BitVec.ofNat 16 b.toNat

/-- The address `0xFF00 + zext_16(n)` of the high page (40_load8.md R117 to R120). -/
def highPage (n : Byte) : Word := BitVec.ofNat 16 (0xFF00 + n.toNat)

/-- `x = b[7:6]` (30_encoding.md R81). -/
def fieldX (b : Byte) : Nat := b.toNat / 64

/-- `y = b[5:3]` (30_encoding.md R81). -/
def fieldY (b : Byte) : Nat := b.toNat / 8 % 8

/-- `z = b[2:0]` (30_encoding.md R81). -/
def fieldZ (b : Byte) : Nat := b.toNat % 8

/-- `p = b[5:4] = y[2:1]` (30_encoding.md R81). -/
def fieldP (b : Byte) : Nat := b.toNat / 16 % 4

/-- `q = b[3] = y[0]` (30_encoding.md R81). -/
def fieldQ (b : Byte) : Nat := b.toNat / 8 % 2

end Sys2Proof.Machine
end

