-- ==== Sys2Proof/Machine/Selectors.lean ====
section
/-! DEFINITION. The operand selectors of the opcode fields (10_state.md R26 to R30; 30_encoding.md R82,
R86, R88), each a closed set of exactly the right size (R36), with the numbering that decodes
a field and the number of each selector; and the instruction forms of the two opcode tables. -/

namespace Sys2Proof.Machine

/-- The seven 8-bit registers that a selector `r8` can name (10_state.md R20, R26); F is not among them. -/
inductive Reg where
  | b | c | d | e | h | l | a
  deriving DecidableEq, Repr

/-- The 8-bit operand selector `r8` (10_state.md R26): a register, or selector 6, the byte at address HL. -/
inductive R8 where
  | reg (r : Reg)
  | atHL
  deriving DecidableEq, Repr

/-- `r8` number 0 to 7: B, C, D, E, H, L, `[HL]`, A (10_state.md R26). -/
def R8.ofField : Nat → R8
  | 0 => .reg .b
  | 1 => .reg .c
  | 2 => .reg .d
  | 3 => .reg .e
  | 4 => .reg .h
  | 5 => .reg .l
  | 6 => .atHL
  | _ => .reg .a

/-- The 16-bit selector `r16` (10_state.md R27). -/
inductive R16 where
  | bc | de | hl | sp
  deriving DecidableEq, Repr

/-- `r16` number 0 to 3: BC, DE, HL, SP (10_state.md R27). -/
def R16.ofField : Nat → R16
  | 0 => .bc
  | 1 => .de
  | 2 => .hl
  | _ => .sp

/-- The memory-indirect selector `r16mem` (10_state.md R28): BC, DE, HL+ and HL-. -/
inductive R16Mem where
  | bc | de | hlInc | hlDec
  deriving DecidableEq, Repr

/-- `r16mem` number 0 to 3: BC, DE, HL+, HL- (10_state.md R28). -/
def R16Mem.ofField : Nat → R16Mem
  | 0 => .bc
  | 1 => .de
  | 2 => .hlInc
  | _ => .hlDec

/-- The stack selector `r16stk` (10_state.md R29): AF in the place of SP. -/
inductive R16Stk where
  | bc | de | hl | af
  deriving DecidableEq, Repr

/-- `r16stk` number 0 to 3: BC, DE, HL, AF (10_state.md R29). -/
def R16Stk.ofField : Nat → R16Stk
  | 0 => .bc
  | 1 => .de
  | 2 => .hl
  | _ => .af

/-- The condition selector `cond` (10_state.md R30): not-zero, zero, not-carry, carry. -/
inductive Cond where
  | nz | z | nc | c
  deriving DecidableEq, Repr

/-- `cond` number 0 to 3: NZ, Z, NC, C (10_state.md R30). -/
def Cond.ofField : Nat → Cond
  | 0 => .nz
  | 1 => .z
  | 2 => .nc
  | _ => .c

/-- The eight 8-bit operations on A (30_encoding.md R86). -/
inductive AluOp where
  | add | adc | sub | sbc | and | xor | or | cp
  deriving DecidableEq, Repr

/-- The operation of `ooo = y`: ADD, ADC, SUB, SBC, AND, XOR, OR, CP (30_encoding.md R86). -/
def AluOp.ofField : Nat → AluOp
  | 0 => .add
  | 1 => .adc
  | 2 => .sub
  | 3 => .sbc
  | 4 => .and
  | 5 => .xor
  | 6 => .or
  | _ => .cp

/-- The eight rotates and shifts (44_rotate_shift_bit.md R204). -/
inductive RotOp where
  | rlc | rrc | rl | rr | sla | sra | swap | srl
  deriving DecidableEq, Repr

/-- The operation of `y` of an extended opcode with `x = 0` (30_encoding.md R88, 44_rotate_shift_bit.md R204). -/
def RotOp.ofField : Nat → RotOp
  | 0 => .rlc
  | 1 => .rrc
  | 2 => .rl
  | 3 => .rr
  | 4 => .sla
  | 5 => .sra
  | 6 => .swap
  | _ => .srl

/-- A 3-bit opcode field that is a number: the bit index `b3` of BIT, RES, SET and the target `tgt3` of
RST (00_scope.md R9). -/
inductive Idx3 where
  | i0 | i1 | i2 | i3 | i4 | i5 | i6 | i7
  deriving DecidableEq, Repr

/-- The field's value as a selector. -/
def Idx3.ofField : Nat → Idx3
  | 0 => .i0
  | 1 => .i1
  | 2 => .i2
  | 3 => .i3
  | 4 => .i4
  | 5 => .i5
  | 6 => .i6
  | _ => .i7

/-- The number a 3-bit field stands for, 0 to 7. -/
def Idx3.num : Idx3 → Nat
  | .i0 => 0
  | .i1 => 1
  | .i2 => 2
  | .i3 => 3
  | .i4 => 4
  | .i5 => 5
  | .i6 => 6
  | .i7 => 7

/-- The number of a selector in its opcode field (10_state.md R26). -/
def Reg.num : Reg → Nat
  | .b => 0
  | .c => 1
  | .d => 2
  | .e => 3
  | .h => 4
  | .l => 5
  | .a => 7

/-- The number of a selector in its opcode field (10_state.md R27). -/
def R16.num : R16 → Nat
  | .bc => 0
  | .de => 1
  | .hl => 2
  | .sp => 3

/-- The number of a selector in its opcode field (10_state.md R28). -/
def R16Mem.num : R16Mem → Nat
  | .bc => 0
  | .de => 1
  | .hlInc => 2
  | .hlDec => 3

/-- The number of a selector in its opcode field (10_state.md R29). -/
def R16Stk.num : R16Stk → Nat
  | .bc => 0
  | .de => 1
  | .hl => 2
  | .af => 3

/-- The number of a selector in its opcode field (10_state.md R30). -/
def Cond.num : Cond → Nat
  | .nz => 0
  | .z => 1
  | .nc => 2
  | .c => 3

/-- The number of a selector in its opcode field (30_encoding.md R86). -/
def AluOp.num : AluOp → Nat
  | .add => 0
  | .adc => 1
  | .sub => 2
  | .sbc => 3
  | .and => 4
  | .xor => 5
  | .or => 6
  | .cp => 7

/-- The number of a selector in its opcode field (44_rotate_shift_bit.md R204). -/
def RotOp.num : RotOp → Nat
  | .rlc => 0
  | .rrc => 1
  | .rl => 2
  | .rr => 3
  | .sla => 4
  | .sra => 5
  | .swap => 6
  | .srl => 7

/-- The eleven opcode bytes that are no instruction (30_encoding.md R89). -/
inductive IllegalOp where
  | xD3 | xDB | xDD | xE3 | xE4 | xEB | xEC | xED | xF4 | xFC | xFD
  deriving DecidableEq, Repr

/-- The byte (30_encoding.md R89). -/
def IllegalOp.byte : IllegalOp → Byte
  | .xD3 => 0xD3
  | .xDB => 0xDB
  | .xDD => 0xDD
  | .xE3 => 0xE3
  | .xE4 => 0xE4
  | .xEB => 0xEB
  | .xEC => 0xEC
  | .xED => 0xED
  | .xF4 => 0xF4
  | .xFC => 0xFC
  | .xFD => 0xFD

/-- The forms of the extended table (30_encoding.md R88), with their operand selectors. -/
inductive ExtForm where
  | rotReg (op : RotOp) (r : Reg)
  | rotAtHL (op : RotOp)
  | bitReg (i : Idx3) (r : Reg)
  | bitAtHL (i : Idx3)
  | resReg (i : Idx3) (r : Reg)
  | resAtHL (i : Idx3)
  | setBitReg (i : Idx3) (r : Reg)
  | setBitAtHL (i : Idx3)
  deriving DecidableEq, Repr

/-- The instruction forms of the base table (30_encoding.md R84 to R87, R89), with their operand selectors, each under
the name of its effect; `ext` stands for a form of the extended table, which the base table reaches by the prefix. -/
inductive Form where
  | nop
  | ldAtImm16SP
  | stop
  | jr
  | jrCond (cc : Cond)
  | ldR16Imm (r : R16)
  | addHLR16 (r : R16)
  | ldMemA (m : R16Mem)
  | ldAMem (m : R16Mem)
  | incR16 (r : R16)
  | decR16 (r : R16)
  | incReg (r : Reg)
  | incAtHL
  | decReg (r : Reg)
  | decAtHL
  | ldRegImm (r : Reg)
  | ldAtHLImm
  | rlca
  | rrca
  | rla
  | rra
  | daa
  | cpl
  | scf
  | ccf
  | ldRegReg (dst src : Reg)
  | ldRegAtHL (dst : Reg)
  | ldAtHLReg (src : Reg)
  | halt
  | aluReg (op : AluOp) (r : Reg)
  | aluAtHL (op : AluOp)
  | retCond (cc : Cond)
  | ldhAtImmA
  | addSPe8
  | ldhAAtImm
  | ldHLSPe8
  | pop (r : R16Stk)
  | ret
  | reti
  | jpHL
  | ldSPHL
  | jpCond (cc : Cond)
  | ldhAtCA
  | ldAtImm16A
  | ldhAAtC
  | ldAAtImm16
  | jp
  | prefixCB
  | di
  | ei
  | callCond (cc : Cond)
  | push (r : R16Stk)
  | call
  | aluImm (op : AluOp)
  | rst (t : Idx3)
  | illegal (x : IllegalOp)
  | ext (e : ExtForm)
  deriving DecidableEq, Repr

end Sys2Proof.Machine
end

