-- ==== Sys2Proof/Syntax.lean ====
section
/-! DEFINITION. The instructions: one constructor per row of the opcode table (30_encoding.md R84 to R89, R97,
R98), each one concrete opcode byte, or the prefix 0xCB and one byte. "An instruction value carries only the
operands needed to execute it … immediates are fetched from memory lazily during execution, not stored on the
instruction" (R90), so no constructor has a field. -/

namespace Sys2Proof

/-- The 512 rows of the opcode table: 244 base instructions, the prefix byte, the 11 illegal bytes
(30_encoding.md R89) and the 256 extended instructions (R88). A docstring gives the bytes and the rule of the
meaning. -/
inductive Instr where
  /-- `NOP`: 00, R270 -/
  | nop
  /-- `LD BC,n16`: 01 n16, R140 -/
  | ld_BC_n16
  /-- `LD [BC],A`: 02, R115 -/
  | ld_atBC_A
  /-- `INC BC`: 03, R190 -/
  | inc_BC
  /-- `INC B`: 04, R153 -/
  | inc_B
  /-- `DEC B`: 05, R155 -/
  | dec_B
  /-- `LD B,n8`: 06 n8, R113 -/
  | ld_B_n8
  /-- `RLCA`: 07, R200 -/
  | rlca
  /-- `LD [n16],SP`: 08 n16, R141 -/
  | ld_atN16_SP
  /-- `ADD HL,BC`: 09, R192 -/
  | add_HL_BC
  /-- `LD A,[BC]`: 0A, R116 -/
  | ld_A_atBC
  /-- `DEC BC`: 0B, R191 -/
  | dec_BC
  /-- `INC C`: 0C, R153 -/
  | inc_C
  /-- `DEC C`: 0D, R155 -/
  | dec_C
  /-- `LD C,n8`: 0E n8, R113 -/
  | ld_C_n8
  /-- `RRCA`: 0F, R201 -/
  | rrca
  /-- `STOP`: 10 n8, R272 -/
  | stop
  /-- `LD DE,n16`: 11 n16, R140 -/
  | ld_DE_n16
  /-- `LD [DE],A`: 12, R115 -/
  | ld_atDE_A
  /-- `INC DE`: 13, R190 -/
  | inc_DE
  /-- `INC D`: 14, R153 -/
  | inc_D
  /-- `DEC D`: 15, R155 -/
  | dec_D
  /-- `LD D,n8`: 16 n8, R113 -/
  | ld_D_n8
  /-- `RLA`: 17, R202 -/
  | rla
  /-- `JR e8`: 18 n8, R240 -/
  | jr_e8
  /-- `ADD HL,DE`: 19, R192 -/
  | add_HL_DE
  /-- `LD A,[DE]`: 1A, R116 -/
  | ld_A_atDE
  /-- `DEC DE`: 1B, R191 -/
  | dec_DE
  /-- `INC E`: 1C, R153 -/
  | inc_E
  /-- `DEC E`: 1D, R155 -/
  | dec_E
  /-- `LD E,n8`: 1E n8, R113 -/
  | ld_E_n8
  /-- `RRA`: 1F, R203 -/
  | rra
  /-- `JR NZ,e8`: 20 n8, R241 -/
  | jr_NZ_e8
  /-- `LD HL,n16`: 21 n16, R140 -/
  | ld_HL_n16
  /-- `LD [HL+],A`: 22, R115 -/
  | ld_atHLinc_A
  /-- `INC HL`: 23, R190 -/
  | inc_HL
  /-- `INC H`: 24, R153 -/
  | inc_H
  /-- `DEC H`: 25, R155 -/
  | dec_H
  /-- `LD H,n8`: 26 n8, R113 -/
  | ld_H_n8
  /-- `DAA`: 27, R181 -/
  | daa
  /-- `JR Z,e8`: 28 n8, R241 -/
  | jr_Z_e8
  /-- `ADD HL,HL`: 29, R192 -/
  | add_HL_HL
  /-- `LD A,[HL+]`: 2A, R116 -/
  | ld_A_atHLinc
  /-- `DEC HL`: 2B, R191 -/
  | dec_HL
  /-- `INC L`: 2C, R153 -/
  | inc_L
  /-- `DEC L`: 2D, R155 -/
  | dec_L
  /-- `LD L,n8`: 2E n8, R113 -/
  | ld_L_n8
  /-- `CPL`: 2F, R182 -/
  | cpl
  /-- `JR NC,e8`: 30 n8, R241 -/
  | jr_NC_e8
  /-- `LD SP,n16`: 31 n16, R140 -/
  | ld_SP_n16
  /-- `LD [HL-],A`: 32, R115 -/
  | ld_atHLdec_A
  /-- `INC SP`: 33, R190 -/
  | inc_SP
  /-- `INC [HL]`: 34, R154 -/
  | inc_atHL
  /-- `DEC [HL]`: 35, R156 -/
  | dec_atHL
  /-- `LD [HL],n8`: 36 n8, R114 -/
  | ld_atHL_n8
  /-- `SCF`: 37, R183 -/
  | scf
  /-- `JR C,e8`: 38 n8, R241 -/
  | jr_C_e8
  /-- `ADD HL,SP`: 39, R192 -/
  | add_HL_SP
  /-- `LD A,[HL-]`: 3A, R116 -/
  | ld_A_atHLdec
  /-- `DEC SP`: 3B, R191 -/
  | dec_SP
  /-- `INC A`: 3C, R153 -/
  | inc_A
  /-- `DEC A`: 3D, R155 -/
  | dec_A
  /-- `LD A,n8`: 3E n8, R113 -/
  | ld_A_n8
  /-- `CCF`: 3F, R184 -/
  | ccf
  /-- `LD B,B`: 40, R110 -/
  | ld_B_B
  /-- `LD B,C`: 41, R110 -/
  | ld_B_C
  /-- `LD B,D`: 42, R110 -/
  | ld_B_D
  /-- `LD B,E`: 43, R110 -/
  | ld_B_E
  /-- `LD B,H`: 44, R110 -/
  | ld_B_H
  /-- `LD B,L`: 45, R110 -/
  | ld_B_L
  /-- `LD B,[HL]`: 46, R111 -/
  | ld_B_atHL
  /-- `LD B,A`: 47, R110 -/
  | ld_B_A
  /-- `LD C,B`: 48, R110 -/
  | ld_C_B
  /-- `LD C,C`: 49, R110 -/
  | ld_C_C
  /-- `LD C,D`: 4A, R110 -/
  | ld_C_D
  /-- `LD C,E`: 4B, R110 -/
  | ld_C_E
  /-- `LD C,H`: 4C, R110 -/
  | ld_C_H
  /-- `LD C,L`: 4D, R110 -/
  | ld_C_L
  /-- `LD C,[HL]`: 4E, R111 -/
  | ld_C_atHL
  /-- `LD C,A`: 4F, R110 -/
  | ld_C_A
  /-- `LD D,B`: 50, R110 -/
  | ld_D_B
  /-- `LD D,C`: 51, R110 -/
  | ld_D_C
  /-- `LD D,D`: 52, R110 -/
  | ld_D_D
  /-- `LD D,E`: 53, R110 -/
  | ld_D_E
  /-- `LD D,H`: 54, R110 -/
  | ld_D_H
  /-- `LD D,L`: 55, R110 -/
  | ld_D_L
  /-- `LD D,[HL]`: 56, R111 -/
  | ld_D_atHL
  /-- `LD D,A`: 57, R110 -/
  | ld_D_A
  /-- `LD E,B`: 58, R110 -/
  | ld_E_B
  /-- `LD E,C`: 59, R110 -/
  | ld_E_C
  /-- `LD E,D`: 5A, R110 -/
  | ld_E_D
  /-- `LD E,E`: 5B, R110 -/
  | ld_E_E
  /-- `LD E,H`: 5C, R110 -/
  | ld_E_H
  /-- `LD E,L`: 5D, R110 -/
  | ld_E_L
  /-- `LD E,[HL]`: 5E, R111 -/
  | ld_E_atHL
  /-- `LD E,A`: 5F, R110 -/
  | ld_E_A
  /-- `LD H,B`: 60, R110 -/
  | ld_H_B
  /-- `LD H,C`: 61, R110 -/
  | ld_H_C
  /-- `LD H,D`: 62, R110 -/
  | ld_H_D
  /-- `LD H,E`: 63, R110 -/
  | ld_H_E
  /-- `LD H,H`: 64, R110 -/
  | ld_H_H
  /-- `LD H,L`: 65, R110 -/
  | ld_H_L
  /-- `LD H,[HL]`: 66, R111 -/
  | ld_H_atHL
  /-- `LD H,A`: 67, R110 -/
  | ld_H_A
  /-- `LD L,B`: 68, R110 -/
  | ld_L_B
  /-- `LD L,C`: 69, R110 -/
  | ld_L_C
  /-- `LD L,D`: 6A, R110 -/
  | ld_L_D
  /-- `LD L,E`: 6B, R110 -/
  | ld_L_E
  /-- `LD L,H`: 6C, R110 -/
  | ld_L_H
  /-- `LD L,L`: 6D, R110 -/
  | ld_L_L
  /-- `LD L,[HL]`: 6E, R111 -/
  | ld_L_atHL
  /-- `LD L,A`: 6F, R110 -/
  | ld_L_A
  /-- `LD [HL],B`: 70, R112 -/
  | ld_atHL_B
  /-- `LD [HL],C`: 71, R112 -/
  | ld_atHL_C
  /-- `LD [HL],D`: 72, R112 -/
  | ld_atHL_D
  /-- `LD [HL],E`: 73, R112 -/
  | ld_atHL_E
  /-- `LD [HL],H`: 74, R112 -/
  | ld_atHL_H
  /-- `LD [HL],L`: 75, R112 -/
  | ld_atHL_L
  /-- `HALT`: 76, R271 -/
  | halt
  /-- `LD [HL],A`: 77, R112 -/
  | ld_atHL_A
  /-- `LD A,B`: 78, R110 -/
  | ld_A_B
  /-- `LD A,C`: 79, R110 -/
  | ld_A_C
  /-- `LD A,D`: 7A, R110 -/
  | ld_A_D
  /-- `LD A,E`: 7B, R110 -/
  | ld_A_E
  /-- `LD A,H`: 7C, R110 -/
  | ld_A_H
  /-- `LD A,L`: 7D, R110 -/
  | ld_A_L
  /-- `LD A,[HL]`: 7E, R111 -/
  | ld_A_atHL
  /-- `LD A,A`: 7F, R110 -/
  | ld_A_A
  /-- `ADD A,B`: 80, R157 -/
  | add_A_B
  /-- `ADD A,C`: 81, R157 -/
  | add_A_C
  /-- `ADD A,D`: 82, R157 -/
  | add_A_D
  /-- `ADD A,E`: 83, R157 -/
  | add_A_E
  /-- `ADD A,H`: 84, R157 -/
  | add_A_H
  /-- `ADD A,L`: 85, R157 -/
  | add_A_L
  /-- `ADD A,[HL]`: 86, R158 -/
  | add_A_atHL
  /-- `ADD A,A`: 87, R157 -/
  | add_A_A
  /-- `ADC A,B`: 88, R160 -/
  | adc_A_B
  /-- `ADC A,C`: 89, R160 -/
  | adc_A_C
  /-- `ADC A,D`: 8A, R160 -/
  | adc_A_D
  /-- `ADC A,E`: 8B, R160 -/
  | adc_A_E
  /-- `ADC A,H`: 8C, R160 -/
  | adc_A_H
  /-- `ADC A,L`: 8D, R160 -/
  | adc_A_L
  /-- `ADC A,[HL]`: 8E, R161 -/
  | adc_A_atHL
  /-- `ADC A,A`: 8F, R160 -/
  | adc_A_A
  /-- `SUB A,B`: 90, R163 -/
  | sub_A_B
  /-- `SUB A,C`: 91, R163 -/
  | sub_A_C
  /-- `SUB A,D`: 92, R163 -/
  | sub_A_D
  /-- `SUB A,E`: 93, R163 -/
  | sub_A_E
  /-- `SUB A,H`: 94, R163 -/
  | sub_A_H
  /-- `SUB A,L`: 95, R163 -/
  | sub_A_L
  /-- `SUB A,[HL]`: 96, R164 -/
  | sub_A_atHL
  /-- `SUB A,A`: 97, R163 -/
  | sub_A_A
  /-- `SBC A,B`: 98, R166 -/
  | sbc_A_B
  /-- `SBC A,C`: 99, R166 -/
  | sbc_A_C
  /-- `SBC A,D`: 9A, R166 -/
  | sbc_A_D
  /-- `SBC A,E`: 9B, R166 -/
  | sbc_A_E
  /-- `SBC A,H`: 9C, R166 -/
  | sbc_A_H
  /-- `SBC A,L`: 9D, R166 -/
  | sbc_A_L
  /-- `SBC A,[HL]`: 9E, R167 -/
  | sbc_A_atHL
  /-- `SBC A,A`: 9F, R166 -/
  | sbc_A_A
  /-- `AND A,B`: A0, R169 -/
  | and_A_B
  /-- `AND A,C`: A1, R169 -/
  | and_A_C
  /-- `AND A,D`: A2, R169 -/
  | and_A_D
  /-- `AND A,E`: A3, R169 -/
  | and_A_E
  /-- `AND A,H`: A4, R169 -/
  | and_A_H
  /-- `AND A,L`: A5, R169 -/
  | and_A_L
  /-- `AND A,[HL]`: A6, R170 -/
  | and_A_atHL
  /-- `AND A,A`: A7, R169 -/
  | and_A_A
  /-- `XOR A,B`: A8, R172 -/
  | xor_A_B
  /-- `XOR A,C`: A9, R172 -/
  | xor_A_C
  /-- `XOR A,D`: AA, R172 -/
  | xor_A_D
  /-- `XOR A,E`: AB, R172 -/
  | xor_A_E
  /-- `XOR A,H`: AC, R172 -/
  | xor_A_H
  /-- `XOR A,L`: AD, R172 -/
  | xor_A_L
  /-- `XOR A,[HL]`: AE, R173 -/
  | xor_A_atHL
  /-- `XOR A,A`: AF, R172 -/
  | xor_A_A
  /-- `OR A,B`: B0, R175 -/
  | or_A_B
  /-- `OR A,C`: B1, R175 -/
  | or_A_C
  /-- `OR A,D`: B2, R175 -/
  | or_A_D
  /-- `OR A,E`: B3, R175 -/
  | or_A_E
  /-- `OR A,H`: B4, R175 -/
  | or_A_H
  /-- `OR A,L`: B5, R175 -/
  | or_A_L
  /-- `OR A,[HL]`: B6, R176 -/
  | or_A_atHL
  /-- `OR A,A`: B7, R175 -/
  | or_A_A
  /-- `CP A,B`: B8, R178 -/
  | cp_A_B
  /-- `CP A,C`: B9, R178 -/
  | cp_A_C
  /-- `CP A,D`: BA, R178 -/
  | cp_A_D
  /-- `CP A,E`: BB, R178 -/
  | cp_A_E
  /-- `CP A,H`: BC, R178 -/
  | cp_A_H
  /-- `CP A,L`: BD, R178 -/
  | cp_A_L
  /-- `CP A,[HL]`: BE, R179 -/
  | cp_A_atHL
  /-- `CP A,A`: BF, R178 -/
  | cp_A_A
  /-- `RET NZ`: C0, R248 -/
  | ret_NZ
  /-- `POP BC`: C1, R261 -/
  | pop_BC
  /-- `JP NZ,n16`: C2 n16, R243 -/
  | jp_NZ_n16
  /-- `JP n16`: C3 n16, R242 -/
  | jp_n16
  /-- `CALL NZ,n16`: C4 n16, R246 -/
  | call_NZ_n16
  /-- `PUSH BC`: C5, R260 -/
  | push_BC
  /-- `ADD A,n8`: C6 n8, R159 -/
  | add_A_n8
  /-- `RST 0x00`: C7, R250 -/
  | rst_0x00
  /-- `RET Z`: C8, R248 -/
  | ret_Z
  /-- `RET`: C9, R247 -/
  | ret
  /-- `JP Z,n16`: CA n16, R243 -/
  | jp_Z_n16
  /-- `PREFIX`: CB, R275 -/
  | prefix_CB
  /-- `CALL Z,n16`: CC n16, R246 -/
  | call_Z_n16
  /-- `CALL n16`: CD n16, R245 -/
  | call_n16
  /-- `ADC A,n8`: CE n8, R162 -/
  | adc_A_n8
  /-- `RST 0x08`: CF, R250 -/
  | rst_0x08
  /-- `RET NC`: D0, R248 -/
  | ret_NC
  /-- `POP DE`: D1, R261 -/
  | pop_DE
  /-- `JP NC,n16`: D2 n16, R243 -/
  | jp_NC_n16
  /-- `ILLEGAL 0xD3`: D3, R276 -/
  | illegal_0xD3
  /-- `CALL NC,n16`: D4 n16, R246 -/
  | call_NC_n16
  /-- `PUSH DE`: D5, R260 -/
  | push_DE
  /-- `SUB A,n8`: D6 n8, R165 -/
  | sub_A_n8
  /-- `RST 0x10`: D7, R250 -/
  | rst_0x10
  /-- `RET C`: D8, R248 -/
  | ret_C
  /-- `RETI`: D9, R249 -/
  | reti
  /-- `JP C,n16`: DA n16, R243 -/
  | jp_C_n16
  /-- `ILLEGAL 0xDB`: DB, R276 -/
  | illegal_0xDB
  /-- `CALL C,n16`: DC n16, R246 -/
  | call_C_n16
  /-- `ILLEGAL 0xDD`: DD, R276 -/
  | illegal_0xDD
  /-- `SBC A,n8`: DE n8, R168 -/
  | sbc_A_n8
  /-- `RST 0x18`: DF, R250 -/
  | rst_0x18
  /-- `LDH [n8],A`: E0 n8, R119 -/
  | ldh_atN8_A
  /-- `POP HL`: E1, R261 -/
  | pop_HL
  /-- `LDH [C],A`: E2, R117 -/
  | ldh_atC_A
  /-- `ILLEGAL 0xE3`: E3, R276 -/
  | illegal_0xE3
  /-- `ILLEGAL 0xE4`: E4, R276 -/
  | illegal_0xE4
  /-- `PUSH HL`: E5, R260 -/
  | push_HL
  /-- `AND A,n8`: E6 n8, R171 -/
  | and_A_n8
  /-- `RST 0x20`: E7, R250 -/
  | rst_0x20
  /-- `ADD SP,e8`: E8 n8, R193 -/
  | add_SP_e8
  /-- `JP HL`: E9, R244 -/
  | jp_HL
  /-- `LD [n16],A`: EA n16, R121 -/
  | ld_atN16_A
  /-- `ILLEGAL 0xEB`: EB, R276 -/
  | illegal_0xEB
  /-- `ILLEGAL 0xEC`: EC, R276 -/
  | illegal_0xEC
  /-- `ILLEGAL 0xED`: ED, R276 -/
  | illegal_0xED
  /-- `XOR A,n8`: EE n8, R174 -/
  | xor_A_n8
  /-- `RST 0x28`: EF, R250 -/
  | rst_0x28
  /-- `LDH A,[n8]`: F0 n8, R120 -/
  | ldh_A_atN8
  /-- `POP AF`: F1, R262 -/
  | pop_AF
  /-- `LDH A,[C]`: F2, R118 -/
  | ldh_A_atC
  /-- `DI`: F3, R273 -/
  | di
  /-- `ILLEGAL 0xF4`: F4, R276 -/
  | illegal_0xF4
  /-- `PUSH AF`: F5, R260 -/
  | push_AF
  /-- `OR A,n8`: F6 n8, R177 -/
  | or_A_n8
  /-- `RST 0x30`: F7, R250 -/
  | rst_0x30
  /-- `LD HL,SP+e8`: F8 n8, R143 -/
  | ld_HL_SPe8
  /-- `LD SP,HL`: F9, R142 -/
  | ld_SP_HL
  /-- `LD A,[n16]`: FA n16, R122 -/
  | ld_A_atN16
  /-- `EI`: FB, R274 -/
  | ei
  /-- `ILLEGAL 0xFC`: FC, R276 -/
  | illegal_0xFC
  /-- `ILLEGAL 0xFD`: FD, R276 -/
  | illegal_0xFD
  /-- `CP A,n8`: FE n8, R180 -/
  | cp_A_n8
  /-- `RST 0x38`: FF, R250 -/
  | rst_0x38
  /-- `RLC B`: CB 00, R205 -/
  | rlc_B
  /-- `RLC C`: CB 01, R205 -/
  | rlc_C
  /-- `RLC D`: CB 02, R205 -/
  | rlc_D
  /-- `RLC E`: CB 03, R205 -/
  | rlc_E
  /-- `RLC H`: CB 04, R205 -/
  | rlc_H
  /-- `RLC L`: CB 05, R205 -/
  | rlc_L
  /-- `RLC [HL]`: CB 06, R206 -/
  | rlc_atHL
  /-- `RLC A`: CB 07, R205 -/
  | rlc_A
  /-- `RRC B`: CB 08, R207 -/
  | rrc_B
  /-- `RRC C`: CB 09, R207 -/
  | rrc_C
  /-- `RRC D`: CB 0A, R207 -/
  | rrc_D
  /-- `RRC E`: CB 0B, R207 -/
  | rrc_E
  /-- `RRC H`: CB 0C, R207 -/
  | rrc_H
  /-- `RRC L`: CB 0D, R207 -/
  | rrc_L
  /-- `RRC [HL]`: CB 0E, R208 -/
  | rrc_atHL
  /-- `RRC A`: CB 0F, R207 -/
  | rrc_A
  /-- `RL B`: CB 10, R209 -/
  | rl_B
  /-- `RL C`: CB 11, R209 -/
  | rl_C
  /-- `RL D`: CB 12, R209 -/
  | rl_D
  /-- `RL E`: CB 13, R209 -/
  | rl_E
  /-- `RL H`: CB 14, R209 -/
  | rl_H
  /-- `RL L`: CB 15, R209 -/
  | rl_L
  /-- `RL [HL]`: CB 16, R210 -/
  | rl_atHL
  /-- `RL A`: CB 17, R209 -/
  | rl_A
  /-- `RR B`: CB 18, R211 -/
  | rr_B
  /-- `RR C`: CB 19, R211 -/
  | rr_C
  /-- `RR D`: CB 1A, R211 -/
  | rr_D
  /-- `RR E`: CB 1B, R211 -/
  | rr_E
  /-- `RR H`: CB 1C, R211 -/
  | rr_H
  /-- `RR L`: CB 1D, R211 -/
  | rr_L
  /-- `RR [HL]`: CB 1E, R212 -/
  | rr_atHL
  /-- `RR A`: CB 1F, R211 -/
  | rr_A
  /-- `SLA B`: CB 20, R213 -/
  | sla_B
  /-- `SLA C`: CB 21, R213 -/
  | sla_C
  /-- `SLA D`: CB 22, R213 -/
  | sla_D
  /-- `SLA E`: CB 23, R213 -/
  | sla_E
  /-- `SLA H`: CB 24, R213 -/
  | sla_H
  /-- `SLA L`: CB 25, R213 -/
  | sla_L
  /-- `SLA [HL]`: CB 26, R214 -/
  | sla_atHL
  /-- `SLA A`: CB 27, R213 -/
  | sla_A
  /-- `SRA B`: CB 28, R215 -/
  | sra_B
  /-- `SRA C`: CB 29, R215 -/
  | sra_C
  /-- `SRA D`: CB 2A, R215 -/
  | sra_D
  /-- `SRA E`: CB 2B, R215 -/
  | sra_E
  /-- `SRA H`: CB 2C, R215 -/
  | sra_H
  /-- `SRA L`: CB 2D, R215 -/
  | sra_L
  /-- `SRA [HL]`: CB 2E, R216 -/
  | sra_atHL
  /-- `SRA A`: CB 2F, R215 -/
  | sra_A
  /-- `SWAP B`: CB 30, R217 -/
  | swap_B
  /-- `SWAP C`: CB 31, R217 -/
  | swap_C
  /-- `SWAP D`: CB 32, R217 -/
  | swap_D
  /-- `SWAP E`: CB 33, R217 -/
  | swap_E
  /-- `SWAP H`: CB 34, R217 -/
  | swap_H
  /-- `SWAP L`: CB 35, R217 -/
  | swap_L
  /-- `SWAP [HL]`: CB 36, R218 -/
  | swap_atHL
  /-- `SWAP A`: CB 37, R217 -/
  | swap_A
  /-- `SRL B`: CB 38, R219 -/
  | srl_B
  /-- `SRL C`: CB 39, R219 -/
  | srl_C
  /-- `SRL D`: CB 3A, R219 -/
  | srl_D
  /-- `SRL E`: CB 3B, R219 -/
  | srl_E
  /-- `SRL H`: CB 3C, R219 -/
  | srl_H
  /-- `SRL L`: CB 3D, R219 -/
  | srl_L
  /-- `SRL [HL]`: CB 3E, R220 -/
  | srl_atHL
  /-- `SRL A`: CB 3F, R219 -/
  | srl_A
  /-- `BIT 0,B`: CB 40, R221 -/
  | bit_0_B
  /-- `BIT 0,C`: CB 41, R221 -/
  | bit_0_C
  /-- `BIT 0,D`: CB 42, R221 -/
  | bit_0_D
  /-- `BIT 0,E`: CB 43, R221 -/
  | bit_0_E
  /-- `BIT 0,H`: CB 44, R221 -/
  | bit_0_H
  /-- `BIT 0,L`: CB 45, R221 -/
  | bit_0_L
  /-- `BIT 0,[HL]`: CB 46, R222 -/
  | bit_0_atHL
  /-- `BIT 0,A`: CB 47, R221 -/
  | bit_0_A
  /-- `BIT 1,B`: CB 48, R221 -/
  | bit_1_B
  /-- `BIT 1,C`: CB 49, R221 -/
  | bit_1_C
  /-- `BIT 1,D`: CB 4A, R221 -/
  | bit_1_D
  /-- `BIT 1,E`: CB 4B, R221 -/
  | bit_1_E
  /-- `BIT 1,H`: CB 4C, R221 -/
  | bit_1_H
  /-- `BIT 1,L`: CB 4D, R221 -/
  | bit_1_L
  /-- `BIT 1,[HL]`: CB 4E, R222 -/
  | bit_1_atHL
  /-- `BIT 1,A`: CB 4F, R221 -/
  | bit_1_A
  /-- `BIT 2,B`: CB 50, R221 -/
  | bit_2_B
  /-- `BIT 2,C`: CB 51, R221 -/
  | bit_2_C
  /-- `BIT 2,D`: CB 52, R221 -/
  | bit_2_D
  /-- `BIT 2,E`: CB 53, R221 -/
  | bit_2_E
  /-- `BIT 2,H`: CB 54, R221 -/
  | bit_2_H
  /-- `BIT 2,L`: CB 55, R221 -/
  | bit_2_L
  /-- `BIT 2,[HL]`: CB 56, R222 -/
  | bit_2_atHL
  /-- `BIT 2,A`: CB 57, R221 -/
  | bit_2_A
  /-- `BIT 3,B`: CB 58, R221 -/
  | bit_3_B
  /-- `BIT 3,C`: CB 59, R221 -/
  | bit_3_C
  /-- `BIT 3,D`: CB 5A, R221 -/
  | bit_3_D
  /-- `BIT 3,E`: CB 5B, R221 -/
  | bit_3_E
  /-- `BIT 3,H`: CB 5C, R221 -/
  | bit_3_H
  /-- `BIT 3,L`: CB 5D, R221 -/
  | bit_3_L
  /-- `BIT 3,[HL]`: CB 5E, R222 -/
  | bit_3_atHL
  /-- `BIT 3,A`: CB 5F, R221 -/
  | bit_3_A
  /-- `BIT 4,B`: CB 60, R221 -/
  | bit_4_B
  /-- `BIT 4,C`: CB 61, R221 -/
  | bit_4_C
  /-- `BIT 4,D`: CB 62, R221 -/
  | bit_4_D
  /-- `BIT 4,E`: CB 63, R221 -/
  | bit_4_E
  /-- `BIT 4,H`: CB 64, R221 -/
  | bit_4_H
  /-- `BIT 4,L`: CB 65, R221 -/
  | bit_4_L
  /-- `BIT 4,[HL]`: CB 66, R222 -/
  | bit_4_atHL
  /-- `BIT 4,A`: CB 67, R221 -/
  | bit_4_A
  /-- `BIT 5,B`: CB 68, R221 -/
  | bit_5_B
  /-- `BIT 5,C`: CB 69, R221 -/
  | bit_5_C
  /-- `BIT 5,D`: CB 6A, R221 -/
  | bit_5_D
  /-- `BIT 5,E`: CB 6B, R221 -/
  | bit_5_E
  /-- `BIT 5,H`: CB 6C, R221 -/
  | bit_5_H
  /-- `BIT 5,L`: CB 6D, R221 -/
  | bit_5_L
  /-- `BIT 5,[HL]`: CB 6E, R222 -/
  | bit_5_atHL
  /-- `BIT 5,A`: CB 6F, R221 -/
  | bit_5_A
  /-- `BIT 6,B`: CB 70, R221 -/
  | bit_6_B
  /-- `BIT 6,C`: CB 71, R221 -/
  | bit_6_C
  /-- `BIT 6,D`: CB 72, R221 -/
  | bit_6_D
  /-- `BIT 6,E`: CB 73, R221 -/
  | bit_6_E
  /-- `BIT 6,H`: CB 74, R221 -/
  | bit_6_H
  /-- `BIT 6,L`: CB 75, R221 -/
  | bit_6_L
  /-- `BIT 6,[HL]`: CB 76, R222 -/
  | bit_6_atHL
  /-- `BIT 6,A`: CB 77, R221 -/
  | bit_6_A
  /-- `BIT 7,B`: CB 78, R221 -/
  | bit_7_B
  /-- `BIT 7,C`: CB 79, R221 -/
  | bit_7_C
  /-- `BIT 7,D`: CB 7A, R221 -/
  | bit_7_D
  /-- `BIT 7,E`: CB 7B, R221 -/
  | bit_7_E
  /-- `BIT 7,H`: CB 7C, R221 -/
  | bit_7_H
  /-- `BIT 7,L`: CB 7D, R221 -/
  | bit_7_L
  /-- `BIT 7,[HL]`: CB 7E, R222 -/
  | bit_7_atHL
  /-- `BIT 7,A`: CB 7F, R221 -/
  | bit_7_A
  /-- `RES 0,B`: CB 80, R223 -/
  | res_0_B
  /-- `RES 0,C`: CB 81, R223 -/
  | res_0_C
  /-- `RES 0,D`: CB 82, R223 -/
  | res_0_D
  /-- `RES 0,E`: CB 83, R223 -/
  | res_0_E
  /-- `RES 0,H`: CB 84, R223 -/
  | res_0_H
  /-- `RES 0,L`: CB 85, R223 -/
  | res_0_L
  /-- `RES 0,[HL]`: CB 86, R224 -/
  | res_0_atHL
  /-- `RES 0,A`: CB 87, R223 -/
  | res_0_A
  /-- `RES 1,B`: CB 88, R223 -/
  | res_1_B
  /-- `RES 1,C`: CB 89, R223 -/
  | res_1_C
  /-- `RES 1,D`: CB 8A, R223 -/
  | res_1_D
  /-- `RES 1,E`: CB 8B, R223 -/
  | res_1_E
  /-- `RES 1,H`: CB 8C, R223 -/
  | res_1_H
  /-- `RES 1,L`: CB 8D, R223 -/
  | res_1_L
  /-- `RES 1,[HL]`: CB 8E, R224 -/
  | res_1_atHL
  /-- `RES 1,A`: CB 8F, R223 -/
  | res_1_A
  /-- `RES 2,B`: CB 90, R223 -/
  | res_2_B
  /-- `RES 2,C`: CB 91, R223 -/
  | res_2_C
  /-- `RES 2,D`: CB 92, R223 -/
  | res_2_D
  /-- `RES 2,E`: CB 93, R223 -/
  | res_2_E
  /-- `RES 2,H`: CB 94, R223 -/
  | res_2_H
  /-- `RES 2,L`: CB 95, R223 -/
  | res_2_L
  /-- `RES 2,[HL]`: CB 96, R224 -/
  | res_2_atHL
  /-- `RES 2,A`: CB 97, R223 -/
  | res_2_A
  /-- `RES 3,B`: CB 98, R223 -/
  | res_3_B
  /-- `RES 3,C`: CB 99, R223 -/
  | res_3_C
  /-- `RES 3,D`: CB 9A, R223 -/
  | res_3_D
  /-- `RES 3,E`: CB 9B, R223 -/
  | res_3_E
  /-- `RES 3,H`: CB 9C, R223 -/
  | res_3_H
  /-- `RES 3,L`: CB 9D, R223 -/
  | res_3_L
  /-- `RES 3,[HL]`: CB 9E, R224 -/
  | res_3_atHL
  /-- `RES 3,A`: CB 9F, R223 -/
  | res_3_A
  /-- `RES 4,B`: CB A0, R223 -/
  | res_4_B
  /-- `RES 4,C`: CB A1, R223 -/
  | res_4_C
  /-- `RES 4,D`: CB A2, R223 -/
  | res_4_D
  /-- `RES 4,E`: CB A3, R223 -/
  | res_4_E
  /-- `RES 4,H`: CB A4, R223 -/
  | res_4_H
  /-- `RES 4,L`: CB A5, R223 -/
  | res_4_L
  /-- `RES 4,[HL]`: CB A6, R224 -/
  | res_4_atHL
  /-- `RES 4,A`: CB A7, R223 -/
  | res_4_A
  /-- `RES 5,B`: CB A8, R223 -/
  | res_5_B
  /-- `RES 5,C`: CB A9, R223 -/
  | res_5_C
  /-- `RES 5,D`: CB AA, R223 -/
  | res_5_D
  /-- `RES 5,E`: CB AB, R223 -/
  | res_5_E
  /-- `RES 5,H`: CB AC, R223 -/
  | res_5_H
  /-- `RES 5,L`: CB AD, R223 -/
  | res_5_L
  /-- `RES 5,[HL]`: CB AE, R224 -/
  | res_5_atHL
  /-- `RES 5,A`: CB AF, R223 -/
  | res_5_A
  /-- `RES 6,B`: CB B0, R223 -/
  | res_6_B
  /-- `RES 6,C`: CB B1, R223 -/
  | res_6_C
  /-- `RES 6,D`: CB B2, R223 -/
  | res_6_D
  /-- `RES 6,E`: CB B3, R223 -/
  | res_6_E
  /-- `RES 6,H`: CB B4, R223 -/
  | res_6_H
  /-- `RES 6,L`: CB B5, R223 -/
  | res_6_L
  /-- `RES 6,[HL]`: CB B6, R224 -/
  | res_6_atHL
  /-- `RES 6,A`: CB B7, R223 -/
  | res_6_A
  /-- `RES 7,B`: CB B8, R223 -/
  | res_7_B
  /-- `RES 7,C`: CB B9, R223 -/
  | res_7_C
  /-- `RES 7,D`: CB BA, R223 -/
  | res_7_D
  /-- `RES 7,E`: CB BB, R223 -/
  | res_7_E
  /-- `RES 7,H`: CB BC, R223 -/
  | res_7_H
  /-- `RES 7,L`: CB BD, R223 -/
  | res_7_L
  /-- `RES 7,[HL]`: CB BE, R224 -/
  | res_7_atHL
  /-- `RES 7,A`: CB BF, R223 -/
  | res_7_A
  /-- `SET 0,B`: CB C0, R225 -/
  | set_0_B
  /-- `SET 0,C`: CB C1, R225 -/
  | set_0_C
  /-- `SET 0,D`: CB C2, R225 -/
  | set_0_D
  /-- `SET 0,E`: CB C3, R225 -/
  | set_0_E
  /-- `SET 0,H`: CB C4, R225 -/
  | set_0_H
  /-- `SET 0,L`: CB C5, R225 -/
  | set_0_L
  /-- `SET 0,[HL]`: CB C6, R226 -/
  | set_0_atHL
  /-- `SET 0,A`: CB C7, R225 -/
  | set_0_A
  /-- `SET 1,B`: CB C8, R225 -/
  | set_1_B
  /-- `SET 1,C`: CB C9, R225 -/
  | set_1_C
  /-- `SET 1,D`: CB CA, R225 -/
  | set_1_D
  /-- `SET 1,E`: CB CB, R225 -/
  | set_1_E
  /-- `SET 1,H`: CB CC, R225 -/
  | set_1_H
  /-- `SET 1,L`: CB CD, R225 -/
  | set_1_L
  /-- `SET 1,[HL]`: CB CE, R226 -/
  | set_1_atHL
  /-- `SET 1,A`: CB CF, R225 -/
  | set_1_A
  /-- `SET 2,B`: CB D0, R225 -/
  | set_2_B
  /-- `SET 2,C`: CB D1, R225 -/
  | set_2_C
  /-- `SET 2,D`: CB D2, R225 -/
  | set_2_D
  /-- `SET 2,E`: CB D3, R225 -/
  | set_2_E
  /-- `SET 2,H`: CB D4, R225 -/
  | set_2_H
  /-- `SET 2,L`: CB D5, R225 -/
  | set_2_L
  /-- `SET 2,[HL]`: CB D6, R226 -/
  | set_2_atHL
  /-- `SET 2,A`: CB D7, R225 -/
  | set_2_A
  /-- `SET 3,B`: CB D8, R225 -/
  | set_3_B
  /-- `SET 3,C`: CB D9, R225 -/
  | set_3_C
  /-- `SET 3,D`: CB DA, R225 -/
  | set_3_D
  /-- `SET 3,E`: CB DB, R225 -/
  | set_3_E
  /-- `SET 3,H`: CB DC, R225 -/
  | set_3_H
  /-- `SET 3,L`: CB DD, R225 -/
  | set_3_L
  /-- `SET 3,[HL]`: CB DE, R226 -/
  | set_3_atHL
  /-- `SET 3,A`: CB DF, R225 -/
  | set_3_A
  /-- `SET 4,B`: CB E0, R225 -/
  | set_4_B
  /-- `SET 4,C`: CB E1, R225 -/
  | set_4_C
  /-- `SET 4,D`: CB E2, R225 -/
  | set_4_D
  /-- `SET 4,E`: CB E3, R225 -/
  | set_4_E
  /-- `SET 4,H`: CB E4, R225 -/
  | set_4_H
  /-- `SET 4,L`: CB E5, R225 -/
  | set_4_L
  /-- `SET 4,[HL]`: CB E6, R226 -/
  | set_4_atHL
  /-- `SET 4,A`: CB E7, R225 -/
  | set_4_A
  /-- `SET 5,B`: CB E8, R225 -/
  | set_5_B
  /-- `SET 5,C`: CB E9, R225 -/
  | set_5_C
  /-- `SET 5,D`: CB EA, R225 -/
  | set_5_D
  /-- `SET 5,E`: CB EB, R225 -/
  | set_5_E
  /-- `SET 5,H`: CB EC, R225 -/
  | set_5_H
  /-- `SET 5,L`: CB ED, R225 -/
  | set_5_L
  /-- `SET 5,[HL]`: CB EE, R226 -/
  | set_5_atHL
  /-- `SET 5,A`: CB EF, R225 -/
  | set_5_A
  /-- `SET 6,B`: CB F0, R225 -/
  | set_6_B
  /-- `SET 6,C`: CB F1, R225 -/
  | set_6_C
  /-- `SET 6,D`: CB F2, R225 -/
  | set_6_D
  /-- `SET 6,E`: CB F3, R225 -/
  | set_6_E
  /-- `SET 6,H`: CB F4, R225 -/
  | set_6_H
  /-- `SET 6,L`: CB F5, R225 -/
  | set_6_L
  /-- `SET 6,[HL]`: CB F6, R226 -/
  | set_6_atHL
  /-- `SET 6,A`: CB F7, R225 -/
  | set_6_A
  /-- `SET 7,B`: CB F8, R225 -/
  | set_7_B
  /-- `SET 7,C`: CB F9, R225 -/
  | set_7_C
  /-- `SET 7,D`: CB FA, R225 -/
  | set_7_D
  /-- `SET 7,E`: CB FB, R225 -/
  | set_7_E
  /-- `SET 7,H`: CB FC, R225 -/
  | set_7_H
  /-- `SET 7,L`: CB FD, R225 -/
  | set_7_L
  /-- `SET 7,[HL]`: CB FE, R226 -/
  | set_7_atHL
  /-- `SET 7,A`: CB FF, R225 -/
  | set_7_A
  deriving DecidableEq, Repr

end Sys2Proof
end

