-- ==== Sys2Proof/WellFormed.lean ====
section
/-! DEFINITION. Well-formedness: which instructions are whole, and how many operand bytes each has
(30_encoding.md R80, R91; 47_system.md R275). -/

namespace Sys2Proof

/-- An instruction that is whole: every row but the prefix, since "`0xCB` is not an instruction by itself: it selects
the extended table for exactly the next byte" (47_system.md R275). An illegal opcode is whole: it is one byte with a
verdict of its own (R276). -/
def wellFormed : Instr → Bool
  | .prefix_CB => false
  | _ => true

/-- The number of operand bytes after the opcode: 1 for an `n8`, an `e8` or the pad byte of STOP, 2 for an `n16`, 0
for every other row (30_encoding.md R80, R96). -/
def operandBytes : Instr → Nat
  | .ld_B_n8 => 1
  | .ld_C_n8 => 1
  | .stop => 1
  | .ld_D_n8 => 1
  | .jr_e8 => 1
  | .ld_E_n8 => 1
  | .jr_NZ_e8 => 1
  | .ld_H_n8 => 1
  | .jr_Z_e8 => 1
  | .ld_L_n8 => 1
  | .jr_NC_e8 => 1
  | .ld_atHL_n8 => 1
  | .jr_C_e8 => 1
  | .ld_A_n8 => 1
  | .add_A_n8 => 1
  | .adc_A_n8 => 1
  | .sub_A_n8 => 1
  | .sbc_A_n8 => 1
  | .ldh_atN8_A => 1
  | .and_A_n8 => 1
  | .add_SP_e8 => 1
  | .xor_A_n8 => 1
  | .ldh_A_atN8 => 1
  | .or_A_n8 => 1
  | .ld_HL_SPe8 => 1
  | .cp_A_n8 => 1
  | .ld_BC_n16 => 2
  | .ld_atN16_SP => 2
  | .ld_DE_n16 => 2
  | .ld_HL_n16 => 2
  | .ld_SP_n16 => 2
  | .jp_NZ_n16 => 2
  | .jp_n16 => 2
  | .call_NZ_n16 => 2
  | .jp_Z_n16 => 2
  | .call_Z_n16 => 2
  | .call_n16 => 2
  | .jp_NC_n16 => 2
  | .call_NC_n16 => 2
  | .jp_C_n16 => 2
  | .call_C_n16 => 2
  | .ld_atN16_A => 2
  | .ld_A_atN16 => 2
  | _ => 0

/-- A whole instruction with as many operand bytes as it has (30_encoding.md R80). -/
def wellFormedWith (i : Instr) (operand : List Byte) : Bool :=
  wellFormed i && decide (operand.length = operandBytes i)

end Sys2Proof
end

