-- ==== Sys2Proof/Decode.lean ====
section
/-! DEFINITION. The rows of each form; the two decoders, total on bytes (30_encoding.md R81 to R92); the
reading of a whole instruction from a byte string; and after them the encoder, written from the bytes of the
opcode table. -/

namespace Sys2Proof

open Machine (R8 R16 R16Mem R16Stk Cond AluOp RotOp Idx3 Form ExtForm fieldX fieldY fieldZ fieldP fieldQ)

/-- The rows of the form `LD r16,n16` (R140). -/
def Row.ldR16Imm : Machine.R16 → Instr
  | .bc => .ld_BC_n16
  | .de => .ld_DE_n16
  | .hl => .ld_HL_n16
  | .sp => .ld_SP_n16

/-- The rows of the form `LD [r16mem],A` (R115). -/
def Row.ldMemA : Machine.R16Mem → Instr
  | .bc => .ld_atBC_A
  | .de => .ld_atDE_A
  | .hlInc => .ld_atHLinc_A
  | .hlDec => .ld_atHLdec_A

/-- The rows of the form `INC r16` (R190). -/
def Row.incR16 : Machine.R16 → Instr
  | .bc => .inc_BC
  | .de => .inc_DE
  | .hl => .inc_HL
  | .sp => .inc_SP

/-- The rows of the form `INC r8` (R153). -/
def Row.incReg : Machine.Reg → Instr
  | .b => .inc_B
  | .c => .inc_C
  | .d => .inc_D
  | .e => .inc_E
  | .h => .inc_H
  | .l => .inc_L
  | .a => .inc_A

/-- The rows of the form `DEC r8` (R155). -/
def Row.decReg : Machine.Reg → Instr
  | .b => .dec_B
  | .c => .dec_C
  | .d => .dec_D
  | .e => .dec_E
  | .h => .dec_H
  | .l => .dec_L
  | .a => .dec_A

/-- The rows of the form `LD r8,n8` (R113). -/
def Row.ldRegImm : Machine.Reg → Instr
  | .b => .ld_B_n8
  | .c => .ld_C_n8
  | .d => .ld_D_n8
  | .e => .ld_E_n8
  | .h => .ld_H_n8
  | .l => .ld_L_n8
  | .a => .ld_A_n8

/-- The rows of the form `ADD HL,r16` (R192). -/
def Row.addHLR16 : Machine.R16 → Instr
  | .bc => .add_HL_BC
  | .de => .add_HL_DE
  | .hl => .add_HL_HL
  | .sp => .add_HL_SP

/-- The rows of the form `LD A,[r16mem]` (R116). -/
def Row.ldAMem : Machine.R16Mem → Instr
  | .bc => .ld_A_atBC
  | .de => .ld_A_atDE
  | .hlInc => .ld_A_atHLinc
  | .hlDec => .ld_A_atHLdec

/-- The rows of the form `DEC r16` (R191). -/
def Row.decR16 : Machine.R16 → Instr
  | .bc => .dec_BC
  | .de => .dec_DE
  | .hl => .dec_HL
  | .sp => .dec_SP

/-- The rows of the form `JR cond,e8` (R241). -/
def Row.jrCond : Machine.Cond → Instr
  | .nz => .jr_NZ_e8
  | .z => .jr_Z_e8
  | .nc => .jr_NC_e8
  | .c => .jr_C_e8

/-- The rows of the form `LD r8,r8'` (R110). -/
def Row.ldRegReg : Machine.Reg → Machine.Reg → Instr
  | .b, .b => .ld_B_B
  | .b, .c => .ld_B_C
  | .b, .d => .ld_B_D
  | .b, .e => .ld_B_E
  | .b, .h => .ld_B_H
  | .b, .l => .ld_B_L
  | .b, .a => .ld_B_A
  | .c, .b => .ld_C_B
  | .c, .c => .ld_C_C
  | .c, .d => .ld_C_D
  | .c, .e => .ld_C_E
  | .c, .h => .ld_C_H
  | .c, .l => .ld_C_L
  | .c, .a => .ld_C_A
  | .d, .b => .ld_D_B
  | .d, .c => .ld_D_C
  | .d, .d => .ld_D_D
  | .d, .e => .ld_D_E
  | .d, .h => .ld_D_H
  | .d, .l => .ld_D_L
  | .d, .a => .ld_D_A
  | .e, .b => .ld_E_B
  | .e, .c => .ld_E_C
  | .e, .d => .ld_E_D
  | .e, .e => .ld_E_E
  | .e, .h => .ld_E_H
  | .e, .l => .ld_E_L
  | .e, .a => .ld_E_A
  | .h, .b => .ld_H_B
  | .h, .c => .ld_H_C
  | .h, .d => .ld_H_D
  | .h, .e => .ld_H_E
  | .h, .h => .ld_H_H
  | .h, .l => .ld_H_L
  | .h, .a => .ld_H_A
  | .l, .b => .ld_L_B
  | .l, .c => .ld_L_C
  | .l, .d => .ld_L_D
  | .l, .e => .ld_L_E
  | .l, .h => .ld_L_H
  | .l, .l => .ld_L_L
  | .l, .a => .ld_L_A
  | .a, .b => .ld_A_B
  | .a, .c => .ld_A_C
  | .a, .d => .ld_A_D
  | .a, .e => .ld_A_E
  | .a, .h => .ld_A_H
  | .a, .l => .ld_A_L
  | .a, .a => .ld_A_A

/-- The rows of the form `LD r8,[HL]` (R111). -/
def Row.ldRegAtHL : Machine.Reg → Instr
  | .b => .ld_B_atHL
  | .c => .ld_C_atHL
  | .d => .ld_D_atHL
  | .e => .ld_E_atHL
  | .h => .ld_H_atHL
  | .l => .ld_L_atHL
  | .a => .ld_A_atHL

/-- The rows of the form `LD [HL],r8` (R112). -/
def Row.ldAtHLReg : Machine.Reg → Instr
  | .b => .ld_atHL_B
  | .c => .ld_atHL_C
  | .d => .ld_atHL_D
  | .e => .ld_atHL_E
  | .h => .ld_atHL_H
  | .l => .ld_atHL_L
  | .a => .ld_atHL_A

/-- The rows of the form `op A,r8` (R157, R160, R163, R166, R169, R172, R175, R178). -/
def Row.aluReg : Machine.AluOp → Machine.Reg → Instr
  | .add, .b => .add_A_B
  | .add, .c => .add_A_C
  | .add, .d => .add_A_D
  | .add, .e => .add_A_E
  | .add, .h => .add_A_H
  | .add, .l => .add_A_L
  | .add, .a => .add_A_A
  | .adc, .b => .adc_A_B
  | .adc, .c => .adc_A_C
  | .adc, .d => .adc_A_D
  | .adc, .e => .adc_A_E
  | .adc, .h => .adc_A_H
  | .adc, .l => .adc_A_L
  | .adc, .a => .adc_A_A
  | .sub, .b => .sub_A_B
  | .sub, .c => .sub_A_C
  | .sub, .d => .sub_A_D
  | .sub, .e => .sub_A_E
  | .sub, .h => .sub_A_H
  | .sub, .l => .sub_A_L
  | .sub, .a => .sub_A_A
  | .sbc, .b => .sbc_A_B
  | .sbc, .c => .sbc_A_C
  | .sbc, .d => .sbc_A_D
  | .sbc, .e => .sbc_A_E
  | .sbc, .h => .sbc_A_H
  | .sbc, .l => .sbc_A_L
  | .sbc, .a => .sbc_A_A
  | .and, .b => .and_A_B
  | .and, .c => .and_A_C
  | .and, .d => .and_A_D
  | .and, .e => .and_A_E
  | .and, .h => .and_A_H
  | .and, .l => .and_A_L
  | .and, .a => .and_A_A
  | .xor, .b => .xor_A_B
  | .xor, .c => .xor_A_C
  | .xor, .d => .xor_A_D
  | .xor, .e => .xor_A_E
  | .xor, .h => .xor_A_H
  | .xor, .l => .xor_A_L
  | .xor, .a => .xor_A_A
  | .or, .b => .or_A_B
  | .or, .c => .or_A_C
  | .or, .d => .or_A_D
  | .or, .e => .or_A_E
  | .or, .h => .or_A_H
  | .or, .l => .or_A_L
  | .or, .a => .or_A_A
  | .cp, .b => .cp_A_B
  | .cp, .c => .cp_A_C
  | .cp, .d => .cp_A_D
  | .cp, .e => .cp_A_E
  | .cp, .h => .cp_A_H
  | .cp, .l => .cp_A_L
  | .cp, .a => .cp_A_A

/-- The rows of the form `op A,[HL]` (R158, R161, R164, R167, R170, R173, R176, R179). -/
def Row.aluAtHL : Machine.AluOp → Instr
  | .add => .add_A_atHL
  | .adc => .adc_A_atHL
  | .sub => .sub_A_atHL
  | .sbc => .sbc_A_atHL
  | .and => .and_A_atHL
  | .xor => .xor_A_atHL
  | .or => .or_A_atHL
  | .cp => .cp_A_atHL

/-- The rows of the form `RET cond` (R248). -/
def Row.retCond : Machine.Cond → Instr
  | .nz => .ret_NZ
  | .z => .ret_Z
  | .nc => .ret_NC
  | .c => .ret_C

/-- The rows of the form `POP r16stk` (R261, R262). -/
def Row.pop : Machine.R16Stk → Instr
  | .bc => .pop_BC
  | .de => .pop_DE
  | .hl => .pop_HL
  | .af => .pop_AF

/-- The rows of the form `JP cond,n16` (R243). -/
def Row.jpCond : Machine.Cond → Instr
  | .nz => .jp_NZ_n16
  | .z => .jp_Z_n16
  | .nc => .jp_NC_n16
  | .c => .jp_C_n16

/-- The rows of the form `CALL cond,n16` (R246). -/
def Row.callCond : Machine.Cond → Instr
  | .nz => .call_NZ_n16
  | .z => .call_Z_n16
  | .nc => .call_NC_n16
  | .c => .call_C_n16

/-- The rows of the form `PUSH r16stk` (R260). -/
def Row.push : Machine.R16Stk → Instr
  | .bc => .push_BC
  | .de => .push_DE
  | .hl => .push_HL
  | .af => .push_AF

/-- The rows of the form `op A,n8` (R159, R162, R165, R168, R171, R174, R177, R180). -/
def Row.aluImm : Machine.AluOp → Instr
  | .add => .add_A_n8
  | .adc => .adc_A_n8
  | .sub => .sub_A_n8
  | .sbc => .sbc_A_n8
  | .and => .and_A_n8
  | .xor => .xor_A_n8
  | .or => .or_A_n8
  | .cp => .cp_A_n8

/-- The rows of the form `RST tgt3` (R250). -/
def Row.rst : Machine.Idx3 → Instr
  | .i0 => .rst_0x00
  | .i1 => .rst_0x08
  | .i2 => .rst_0x10
  | .i3 => .rst_0x18
  | .i4 => .rst_0x20
  | .i5 => .rst_0x28
  | .i6 => .rst_0x30
  | .i7 => .rst_0x38

/-- The rows of the form extended rotate or shift on `r8` (R205, R207, R209, R211, R213, R215, R217, R219). -/
def Row.rotReg : Machine.RotOp → Machine.Reg → Instr
  | .rlc, .b => .rlc_B
  | .rlc, .c => .rlc_C
  | .rlc, .d => .rlc_D
  | .rlc, .e => .rlc_E
  | .rlc, .h => .rlc_H
  | .rlc, .l => .rlc_L
  | .rlc, .a => .rlc_A
  | .rrc, .b => .rrc_B
  | .rrc, .c => .rrc_C
  | .rrc, .d => .rrc_D
  | .rrc, .e => .rrc_E
  | .rrc, .h => .rrc_H
  | .rrc, .l => .rrc_L
  | .rrc, .a => .rrc_A
  | .rl, .b => .rl_B
  | .rl, .c => .rl_C
  | .rl, .d => .rl_D
  | .rl, .e => .rl_E
  | .rl, .h => .rl_H
  | .rl, .l => .rl_L
  | .rl, .a => .rl_A
  | .rr, .b => .rr_B
  | .rr, .c => .rr_C
  | .rr, .d => .rr_D
  | .rr, .e => .rr_E
  | .rr, .h => .rr_H
  | .rr, .l => .rr_L
  | .rr, .a => .rr_A
  | .sla, .b => .sla_B
  | .sla, .c => .sla_C
  | .sla, .d => .sla_D
  | .sla, .e => .sla_E
  | .sla, .h => .sla_H
  | .sla, .l => .sla_L
  | .sla, .a => .sla_A
  | .sra, .b => .sra_B
  | .sra, .c => .sra_C
  | .sra, .d => .sra_D
  | .sra, .e => .sra_E
  | .sra, .h => .sra_H
  | .sra, .l => .sra_L
  | .sra, .a => .sra_A
  | .swap, .b => .swap_B
  | .swap, .c => .swap_C
  | .swap, .d => .swap_D
  | .swap, .e => .swap_E
  | .swap, .h => .swap_H
  | .swap, .l => .swap_L
  | .swap, .a => .swap_A
  | .srl, .b => .srl_B
  | .srl, .c => .srl_C
  | .srl, .d => .srl_D
  | .srl, .e => .srl_E
  | .srl, .h => .srl_H
  | .srl, .l => .srl_L
  | .srl, .a => .srl_A

/-- The rows of the form extended rotate or shift on `[HL]` (R206, R208, R210, R212, R214, R216, R218, R220). -/
def Row.rotAtHL : Machine.RotOp → Instr
  | .rlc => .rlc_atHL
  | .rrc => .rrc_atHL
  | .rl => .rl_atHL
  | .rr => .rr_atHL
  | .sla => .sla_atHL
  | .sra => .sra_atHL
  | .swap => .swap_atHL
  | .srl => .srl_atHL

/-- The rows of the form `BIT b3,r8` (R221). -/
def Row.bitReg : Machine.Idx3 → Machine.Reg → Instr
  | .i0, .b => .bit_0_B
  | .i0, .c => .bit_0_C
  | .i0, .d => .bit_0_D
  | .i0, .e => .bit_0_E
  | .i0, .h => .bit_0_H
  | .i0, .l => .bit_0_L
  | .i0, .a => .bit_0_A
  | .i1, .b => .bit_1_B
  | .i1, .c => .bit_1_C
  | .i1, .d => .bit_1_D
  | .i1, .e => .bit_1_E
  | .i1, .h => .bit_1_H
  | .i1, .l => .bit_1_L
  | .i1, .a => .bit_1_A
  | .i2, .b => .bit_2_B
  | .i2, .c => .bit_2_C
  | .i2, .d => .bit_2_D
  | .i2, .e => .bit_2_E
  | .i2, .h => .bit_2_H
  | .i2, .l => .bit_2_L
  | .i2, .a => .bit_2_A
  | .i3, .b => .bit_3_B
  | .i3, .c => .bit_3_C
  | .i3, .d => .bit_3_D
  | .i3, .e => .bit_3_E
  | .i3, .h => .bit_3_H
  | .i3, .l => .bit_3_L
  | .i3, .a => .bit_3_A
  | .i4, .b => .bit_4_B
  | .i4, .c => .bit_4_C
  | .i4, .d => .bit_4_D
  | .i4, .e => .bit_4_E
  | .i4, .h => .bit_4_H
  | .i4, .l => .bit_4_L
  | .i4, .a => .bit_4_A
  | .i5, .b => .bit_5_B
  | .i5, .c => .bit_5_C
  | .i5, .d => .bit_5_D
  | .i5, .e => .bit_5_E
  | .i5, .h => .bit_5_H
  | .i5, .l => .bit_5_L
  | .i5, .a => .bit_5_A
  | .i6, .b => .bit_6_B
  | .i6, .c => .bit_6_C
  | .i6, .d => .bit_6_D
  | .i6, .e => .bit_6_E
  | .i6, .h => .bit_6_H
  | .i6, .l => .bit_6_L
  | .i6, .a => .bit_6_A
  | .i7, .b => .bit_7_B
  | .i7, .c => .bit_7_C
  | .i7, .d => .bit_7_D
  | .i7, .e => .bit_7_E
  | .i7, .h => .bit_7_H
  | .i7, .l => .bit_7_L
  | .i7, .a => .bit_7_A

/-- The rows of the form `BIT b3,[HL]` (R222). -/
def Row.bitAtHL : Machine.Idx3 → Instr
  | .i0 => .bit_0_atHL
  | .i1 => .bit_1_atHL
  | .i2 => .bit_2_atHL
  | .i3 => .bit_3_atHL
  | .i4 => .bit_4_atHL
  | .i5 => .bit_5_atHL
  | .i6 => .bit_6_atHL
  | .i7 => .bit_7_atHL

/-- The rows of the form `RES b3,r8` (R223). -/
def Row.resReg : Machine.Idx3 → Machine.Reg → Instr
  | .i0, .b => .res_0_B
  | .i0, .c => .res_0_C
  | .i0, .d => .res_0_D
  | .i0, .e => .res_0_E
  | .i0, .h => .res_0_H
  | .i0, .l => .res_0_L
  | .i0, .a => .res_0_A
  | .i1, .b => .res_1_B
  | .i1, .c => .res_1_C
  | .i1, .d => .res_1_D
  | .i1, .e => .res_1_E
  | .i1, .h => .res_1_H
  | .i1, .l => .res_1_L
  | .i1, .a => .res_1_A
  | .i2, .b => .res_2_B
  | .i2, .c => .res_2_C
  | .i2, .d => .res_2_D
  | .i2, .e => .res_2_E
  | .i2, .h => .res_2_H
  | .i2, .l => .res_2_L
  | .i2, .a => .res_2_A
  | .i3, .b => .res_3_B
  | .i3, .c => .res_3_C
  | .i3, .d => .res_3_D
  | .i3, .e => .res_3_E
  | .i3, .h => .res_3_H
  | .i3, .l => .res_3_L
  | .i3, .a => .res_3_A
  | .i4, .b => .res_4_B
  | .i4, .c => .res_4_C
  | .i4, .d => .res_4_D
  | .i4, .e => .res_4_E
  | .i4, .h => .res_4_H
  | .i4, .l => .res_4_L
  | .i4, .a => .res_4_A
  | .i5, .b => .res_5_B
  | .i5, .c => .res_5_C
  | .i5, .d => .res_5_D
  | .i5, .e => .res_5_E
  | .i5, .h => .res_5_H
  | .i5, .l => .res_5_L
  | .i5, .a => .res_5_A
  | .i6, .b => .res_6_B
  | .i6, .c => .res_6_C
  | .i6, .d => .res_6_D
  | .i6, .e => .res_6_E
  | .i6, .h => .res_6_H
  | .i6, .l => .res_6_L
  | .i6, .a => .res_6_A
  | .i7, .b => .res_7_B
  | .i7, .c => .res_7_C
  | .i7, .d => .res_7_D
  | .i7, .e => .res_7_E
  | .i7, .h => .res_7_H
  | .i7, .l => .res_7_L
  | .i7, .a => .res_7_A

/-- The rows of the form `RES b3,[HL]` (R224). -/
def Row.resAtHL : Machine.Idx3 → Instr
  | .i0 => .res_0_atHL
  | .i1 => .res_1_atHL
  | .i2 => .res_2_atHL
  | .i3 => .res_3_atHL
  | .i4 => .res_4_atHL
  | .i5 => .res_5_atHL
  | .i6 => .res_6_atHL
  | .i7 => .res_7_atHL

/-- The rows of the form `SET b3,r8` (R225). -/
def Row.setBitReg : Machine.Idx3 → Machine.Reg → Instr
  | .i0, .b => .set_0_B
  | .i0, .c => .set_0_C
  | .i0, .d => .set_0_D
  | .i0, .e => .set_0_E
  | .i0, .h => .set_0_H
  | .i0, .l => .set_0_L
  | .i0, .a => .set_0_A
  | .i1, .b => .set_1_B
  | .i1, .c => .set_1_C
  | .i1, .d => .set_1_D
  | .i1, .e => .set_1_E
  | .i1, .h => .set_1_H
  | .i1, .l => .set_1_L
  | .i1, .a => .set_1_A
  | .i2, .b => .set_2_B
  | .i2, .c => .set_2_C
  | .i2, .d => .set_2_D
  | .i2, .e => .set_2_E
  | .i2, .h => .set_2_H
  | .i2, .l => .set_2_L
  | .i2, .a => .set_2_A
  | .i3, .b => .set_3_B
  | .i3, .c => .set_3_C
  | .i3, .d => .set_3_D
  | .i3, .e => .set_3_E
  | .i3, .h => .set_3_H
  | .i3, .l => .set_3_L
  | .i3, .a => .set_3_A
  | .i4, .b => .set_4_B
  | .i4, .c => .set_4_C
  | .i4, .d => .set_4_D
  | .i4, .e => .set_4_E
  | .i4, .h => .set_4_H
  | .i4, .l => .set_4_L
  | .i4, .a => .set_4_A
  | .i5, .b => .set_5_B
  | .i5, .c => .set_5_C
  | .i5, .d => .set_5_D
  | .i5, .e => .set_5_E
  | .i5, .h => .set_5_H
  | .i5, .l => .set_5_L
  | .i5, .a => .set_5_A
  | .i6, .b => .set_6_B
  | .i6, .c => .set_6_C
  | .i6, .d => .set_6_D
  | .i6, .e => .set_6_E
  | .i6, .h => .set_6_H
  | .i6, .l => .set_6_L
  | .i6, .a => .set_6_A
  | .i7, .b => .set_7_B
  | .i7, .c => .set_7_C
  | .i7, .d => .set_7_D
  | .i7, .e => .set_7_E
  | .i7, .h => .set_7_H
  | .i7, .l => .set_7_L
  | .i7, .a => .set_7_A

/-- The rows of the form `SET b3,[HL]` (R226). -/
def Row.setBitAtHL : Machine.Idx3 → Instr
  | .i0 => .set_0_atHL
  | .i1 => .set_1_atHL
  | .i2 => .set_2_atHL
  | .i3 => .set_3_atHL
  | .i4 => .set_4_atHL
  | .i5 => .set_5_atHL
  | .i6 => .set_6_atHL
  | .i7 => .set_7_atHL

/-- The rows of the illegal bytes (R89). -/
def Row.illegal : Machine.IllegalOp → Instr
  | .xD3 => .illegal_0xD3
  | .xDB => .illegal_0xDB
  | .xDD => .illegal_0xDD
  | .xE3 => .illegal_0xE3
  | .xE4 => .illegal_0xE4
  | .xEB => .illegal_0xEB
  | .xEC => .illegal_0xEC
  | .xED => .illegal_0xED
  | .xF4 => .illegal_0xF4
  | .xFC => .illegal_0xFC
  | .xFD => .illegal_0xFD

/-- The row of a form of the extended table. -/
def Machine.ExtForm.row : ExtForm → Instr
  | .rotReg op r => Row.rotReg op r
  | .rotAtHL op => Row.rotAtHL op
  | .bitReg i r => Row.bitReg i r
  | .bitAtHL i => Row.bitAtHL i
  | .resReg i r => Row.resReg i r
  | .resAtHL i => Row.resAtHL i
  | .setBitReg i r => Row.setBitReg i r
  | .setBitAtHL i => Row.setBitAtHL i

/-- The row of a form. -/
def Machine.Form.row : Form → Instr
  | .nop => .nop
  | .ldAtImm16SP => .ld_atN16_SP
  | .stop => .stop
  | .jr => .jr_e8
  | .jrCond cc => Row.jrCond cc
  | .ldR16Imm r => Row.ldR16Imm r
  | .addHLR16 r => Row.addHLR16 r
  | .ldMemA m => Row.ldMemA m
  | .ldAMem m => Row.ldAMem m
  | .incR16 r => Row.incR16 r
  | .decR16 r => Row.decR16 r
  | .incReg r => Row.incReg r
  | .incAtHL => .inc_atHL
  | .decReg r => Row.decReg r
  | .decAtHL => .dec_atHL
  | .ldRegImm r => Row.ldRegImm r
  | .ldAtHLImm => .ld_atHL_n8
  | .rlca => .rlca
  | .rrca => .rrca
  | .rla => .rla
  | .rra => .rra
  | .daa => .daa
  | .cpl => .cpl
  | .scf => .scf
  | .ccf => .ccf
  | .ldRegReg dst src => Row.ldRegReg dst src
  | .ldRegAtHL dst => Row.ldRegAtHL dst
  | .ldAtHLReg src => Row.ldAtHLReg src
  | .halt => .halt
  | .aluReg op r => Row.aluReg op r
  | .aluAtHL op => Row.aluAtHL op
  | .retCond cc => Row.retCond cc
  | .ldhAtImmA => .ldh_atN8_A
  | .addSPe8 => .add_SP_e8
  | .ldhAAtImm => .ldh_A_atN8
  | .ldHLSPe8 => .ld_HL_SPe8
  | .pop r => Row.pop r
  | .ret => .ret
  | .reti => .reti
  | .jpHL => .jp_HL
  | .ldSPHL => .ld_SP_HL
  | .jpCond cc => Row.jpCond cc
  | .ldhAtCA => .ldh_atC_A
  | .ldAtImm16A => .ld_atN16_A
  | .ldhAAtC => .ldh_A_atC
  | .ldAAtImm16 => .ld_A_atN16
  | .jp => .jp_n16
  | .prefixCB => .prefix_CB
  | .di => .di
  | .ei => .ei
  | .callCond cc => Row.callCond cc
  | .push r => Row.push r
  | .call => .call_n16
  | .aluImm op => Row.aluImm op
  | .rst t => Row.rst t
  | .illegal x => Row.illegal x
  | .ext e => e.row

/-- Base table, block `x = 0` (30_encoding.md R84). -/
def decodeX0 (y z p q : Nat) : Form :=
  match z with
  | 0 =>
    match y with
    | 0 => .nop
    | 1 => .ldAtImm16SP
    | 2 => .stop
    | 3 => .jr
    | _ => .jrCond (Cond.ofField (y % 4))
  | 1 => if q = 0 then .ldR16Imm (R16.ofField p) else .addHLR16 (R16.ofField p)
  | 2 => if q = 0 then .ldMemA (R16Mem.ofField p) else .ldAMem (R16Mem.ofField p)
  | 3 => if q = 0 then .incR16 (R16.ofField p) else .decR16 (R16.ofField p)
  | 4 =>
    match R8.ofField y with
    | .reg r => .incReg r
    | .atHL => .incAtHL
  | 5 =>
    match R8.ofField y with
    | .reg r => .decReg r
    | .atHL => .decAtHL
  | 6 =>
    match R8.ofField y with
    | .reg r => .ldRegImm r
    | .atHL => .ldAtHLImm
  | _ =>
    match y with
    | 0 => .rlca
    | 1 => .rrca
    | 2 => .rla
    | 3 => .rra
    | 4 => .daa
    | 5 => .cpl
    | 6 => .scf
    | _ => .ccf

/-- Base table, block `x = 1` (30_encoding.md R85): the byte that would be `LD [HL],[HL]` is HALT. -/
def decodeX1 (y z : Nat) : Form :=
  match R8.ofField y, R8.ofField z with
  | .reg dst, .reg src => .ldRegReg dst src
  | .reg dst, .atHL => .ldRegAtHL dst
  | .atHL, .reg src => .ldAtHLReg src
  | .atHL, .atHL => .halt

/-- Base table, block `x = 2` (30_encoding.md R86). -/
def decodeX2 (y z : Nat) : Form :=
  match R8.ofField z with
  | .reg r => .aluReg (AluOp.ofField y) r
  | .atHL => .aluAtHL (AluOp.ofField y)

/-- Base table, block `x = 3` (30_encoding.md R87), the illegal bytes of R89 among it. -/
def decodeX3 (y z p q : Nat) : Form :=
  match z with
  | 0 =>
    match y with
    | 4 => .ldhAtImmA
    | 5 => .addSPe8
    | 6 => .ldhAAtImm
    | 7 => .ldHLSPe8
    | _ => .retCond (Cond.ofField (y % 4))
  | 1 =>
    if q = 0 then .pop (R16Stk.ofField p)
    else
      match p with
      | 0 => .ret
      | 1 => .reti
      | 2 => .jpHL
      | _ => .ldSPHL
  | 2 =>
    match y with
    | 4 => .ldhAtCA
    | 5 => .ldAtImm16A
    | 6 => .ldhAAtC
    | 7 => .ldAAtImm16
    | _ => .jpCond (Cond.ofField (y % 4))
  | 3 =>
    match y with
    | 0 => .jp
    | 1 => .prefixCB
    | 2 => .illegal .xD3
    | 3 => .illegal .xDB
    | 4 => .illegal .xE3
    | 5 => .illegal .xEB
    | 6 => .di
    | _ => .ei
  | 4 =>
    match y with
    | 4 => .illegal .xE4
    | 5 => .illegal .xEC
    | 6 => .illegal .xF4
    | 7 => .illegal .xFC
    | _ => .callCond (Cond.ofField (y % 4))
  | 5 =>
    if q = 0 then .push (R16Stk.ofField p)
    else
      match p with
      | 0 => .call
      | 1 => .illegal .xDD
      | 2 => .illegal .xED
      | _ => .illegal .xFD
  | 6 => .aluImm (AluOp.ofField y)
  | _ => .rst (Idx3.ofField y)

/-- `decode_base(b)` as a form: the verdict on an opcode byte, total (30_encoding.md R90): an instruction, the prefix, or
an illegal opcode by name. -/
def baseForm (b : Byte) : Form :=
  match fieldX b with
  | 0 => decodeX0 (fieldY b) (fieldZ b) (fieldP b) (fieldQ b)
  | 1 => decodeX1 (fieldY b) (fieldZ b)
  | 2 => decodeX2 (fieldY b) (fieldZ b)
  | _ => decodeX3 (fieldY b) (fieldZ b) (fieldP b) (fieldQ b)

/-- `decode_base(b)`: the row of an opcode byte. -/
def decodeBase (b : Byte) : Instr := (baseForm b).row

/-- `decode_ext(b)` as a form: the byte after 0xCB, total, no byte is illegal (30_encoding.md R88). -/
def extForm (b : Byte) : ExtForm :=
  match fieldX b, R8.ofField (fieldZ b) with
  | 0, .reg r => .rotReg (RotOp.ofField (fieldY b)) r
  | 0, .atHL => .rotAtHL (RotOp.ofField (fieldY b))
  | 1, .reg r => .bitReg (Idx3.ofField (fieldY b)) r
  | 1, .atHL => .bitAtHL (Idx3.ofField (fieldY b))
  | 2, .reg r => .resReg (Idx3.ofField (fieldY b)) r
  | 2, .atHL => .resAtHL (Idx3.ofField (fieldY b))
  | _, .reg r => .setBitReg (Idx3.ofField (fieldY b)) r
  | _, .atHL => .setBitAtHL (Idx3.ofField (fieldY b))

/-- `decode_ext(b)`: the row of the byte after 0xCB. -/
def decodeExt (b : Byte) : Instr := (extForm b).row

/-- Why a byte string holds no whole instruction. -/
inductive DecodeError where
  /-- the byte string is empty -/
  | noByte
  /-- the prefix 0xCB is the last byte -/
  | noSecondByte
  /-- fewer bytes follow the opcode than the instruction has operand bytes -/
  | shortOperand
  deriving DecidableEq, Repr

/-- The instruction at the front of a byte string, its operand bytes, and the bytes after it
(30_encoding.md R80, R91): the length is a function of the first byte alone; after 0xCB the extended table reads
the next byte, even another 0xCB. -/
def decode : List Byte → Except DecodeError (Instr × List Byte × List Byte)
  | [] => .error .noByte
  | b :: rest =>
    if decodeBase b = .prefix_CB then
      match rest with
      | [] => .error .noSecondByte
      | b2 :: rest => .ok (decodeExt b2, [], rest)
    else if rest.length < operandBytes (decodeBase b) then .error .shortOperand
    else .ok (decodeBase b, rest.take (operandBytes (decodeBase b)), rest.drop (operandBytes (decodeBase b)))

/-- The opcode bytes of an instruction, first byte first (the `match` column of the opcode table;
30_encoding.md R84 to R89): operand bytes follow them. -/
def encode : Instr → List Byte
  | .nop => [0x00]
  | .ld_BC_n16 => [0x01]
  | .ld_atBC_A => [0x02]
  | .inc_BC => [0x03]
  | .inc_B => [0x04]
  | .dec_B => [0x05]
  | .ld_B_n8 => [0x06]
  | .rlca => [0x07]
  | .ld_atN16_SP => [0x08]
  | .add_HL_BC => [0x09]
  | .ld_A_atBC => [0x0A]
  | .dec_BC => [0x0B]
  | .inc_C => [0x0C]
  | .dec_C => [0x0D]
  | .ld_C_n8 => [0x0E]
  | .rrca => [0x0F]
  | .stop => [0x10]
  | .ld_DE_n16 => [0x11]
  | .ld_atDE_A => [0x12]
  | .inc_DE => [0x13]
  | .inc_D => [0x14]
  | .dec_D => [0x15]
  | .ld_D_n8 => [0x16]
  | .rla => [0x17]
  | .jr_e8 => [0x18]
  | .add_HL_DE => [0x19]
  | .ld_A_atDE => [0x1A]
  | .dec_DE => [0x1B]
  | .inc_E => [0x1C]
  | .dec_E => [0x1D]
  | .ld_E_n8 => [0x1E]
  | .rra => [0x1F]
  | .jr_NZ_e8 => [0x20]
  | .ld_HL_n16 => [0x21]
  | .ld_atHLinc_A => [0x22]
  | .inc_HL => [0x23]
  | .inc_H => [0x24]
  | .dec_H => [0x25]
  | .ld_H_n8 => [0x26]
  | .daa => [0x27]
  | .jr_Z_e8 => [0x28]
  | .add_HL_HL => [0x29]
  | .ld_A_atHLinc => [0x2A]
  | .dec_HL => [0x2B]
  | .inc_L => [0x2C]
  | .dec_L => [0x2D]
  | .ld_L_n8 => [0x2E]
  | .cpl => [0x2F]
  | .jr_NC_e8 => [0x30]
  | .ld_SP_n16 => [0x31]
  | .ld_atHLdec_A => [0x32]
  | .inc_SP => [0x33]
  | .inc_atHL => [0x34]
  | .dec_atHL => [0x35]
  | .ld_atHL_n8 => [0x36]
  | .scf => [0x37]
  | .jr_C_e8 => [0x38]
  | .add_HL_SP => [0x39]
  | .ld_A_atHLdec => [0x3A]
  | .dec_SP => [0x3B]
  | .inc_A => [0x3C]
  | .dec_A => [0x3D]
  | .ld_A_n8 => [0x3E]
  | .ccf => [0x3F]
  | .ld_B_B => [0x40]
  | .ld_B_C => [0x41]
  | .ld_B_D => [0x42]
  | .ld_B_E => [0x43]
  | .ld_B_H => [0x44]
  | .ld_B_L => [0x45]
  | .ld_B_atHL => [0x46]
  | .ld_B_A => [0x47]
  | .ld_C_B => [0x48]
  | .ld_C_C => [0x49]
  | .ld_C_D => [0x4A]
  | .ld_C_E => [0x4B]
  | .ld_C_H => [0x4C]
  | .ld_C_L => [0x4D]
  | .ld_C_atHL => [0x4E]
  | .ld_C_A => [0x4F]
  | .ld_D_B => [0x50]
  | .ld_D_C => [0x51]
  | .ld_D_D => [0x52]
  | .ld_D_E => [0x53]
  | .ld_D_H => [0x54]
  | .ld_D_L => [0x55]
  | .ld_D_atHL => [0x56]
  | .ld_D_A => [0x57]
  | .ld_E_B => [0x58]
  | .ld_E_C => [0x59]
  | .ld_E_D => [0x5A]
  | .ld_E_E => [0x5B]
  | .ld_E_H => [0x5C]
  | .ld_E_L => [0x5D]
  | .ld_E_atHL => [0x5E]
  | .ld_E_A => [0x5F]
  | .ld_H_B => [0x60]
  | .ld_H_C => [0x61]
  | .ld_H_D => [0x62]
  | .ld_H_E => [0x63]
  | .ld_H_H => [0x64]
  | .ld_H_L => [0x65]
  | .ld_H_atHL => [0x66]
  | .ld_H_A => [0x67]
  | .ld_L_B => [0x68]
  | .ld_L_C => [0x69]
  | .ld_L_D => [0x6A]
  | .ld_L_E => [0x6B]
  | .ld_L_H => [0x6C]
  | .ld_L_L => [0x6D]
  | .ld_L_atHL => [0x6E]
  | .ld_L_A => [0x6F]
  | .ld_atHL_B => [0x70]
  | .ld_atHL_C => [0x71]
  | .ld_atHL_D => [0x72]
  | .ld_atHL_E => [0x73]
  | .ld_atHL_H => [0x74]
  | .ld_atHL_L => [0x75]
  | .halt => [0x76]
  | .ld_atHL_A => [0x77]
  | .ld_A_B => [0x78]
  | .ld_A_C => [0x79]
  | .ld_A_D => [0x7A]
  | .ld_A_E => [0x7B]
  | .ld_A_H => [0x7C]
  | .ld_A_L => [0x7D]
  | .ld_A_atHL => [0x7E]
  | .ld_A_A => [0x7F]
  | .add_A_B => [0x80]
  | .add_A_C => [0x81]
  | .add_A_D => [0x82]
  | .add_A_E => [0x83]
  | .add_A_H => [0x84]
  | .add_A_L => [0x85]
  | .add_A_atHL => [0x86]
  | .add_A_A => [0x87]
  | .adc_A_B => [0x88]
  | .adc_A_C => [0x89]
  | .adc_A_D => [0x8A]
  | .adc_A_E => [0x8B]
  | .adc_A_H => [0x8C]
  | .adc_A_L => [0x8D]
  | .adc_A_atHL => [0x8E]
  | .adc_A_A => [0x8F]
  | .sub_A_B => [0x90]
  | .sub_A_C => [0x91]
  | .sub_A_D => [0x92]
  | .sub_A_E => [0x93]
  | .sub_A_H => [0x94]
  | .sub_A_L => [0x95]
  | .sub_A_atHL => [0x96]
  | .sub_A_A => [0x97]
  | .sbc_A_B => [0x98]
  | .sbc_A_C => [0x99]
  | .sbc_A_D => [0x9A]
  | .sbc_A_E => [0x9B]
  | .sbc_A_H => [0x9C]
  | .sbc_A_L => [0x9D]
  | .sbc_A_atHL => [0x9E]
  | .sbc_A_A => [0x9F]
  | .and_A_B => [0xA0]
  | .and_A_C => [0xA1]
  | .and_A_D => [0xA2]
  | .and_A_E => [0xA3]
  | .and_A_H => [0xA4]
  | .and_A_L => [0xA5]
  | .and_A_atHL => [0xA6]
  | .and_A_A => [0xA7]
  | .xor_A_B => [0xA8]
  | .xor_A_C => [0xA9]
  | .xor_A_D => [0xAA]
  | .xor_A_E => [0xAB]
  | .xor_A_H => [0xAC]
  | .xor_A_L => [0xAD]
  | .xor_A_atHL => [0xAE]
  | .xor_A_A => [0xAF]
  | .or_A_B => [0xB0]
  | .or_A_C => [0xB1]
  | .or_A_D => [0xB2]
  | .or_A_E => [0xB3]
  | .or_A_H => [0xB4]
  | .or_A_L => [0xB5]
  | .or_A_atHL => [0xB6]
  | .or_A_A => [0xB7]
  | .cp_A_B => [0xB8]
  | .cp_A_C => [0xB9]
  | .cp_A_D => [0xBA]
  | .cp_A_E => [0xBB]
  | .cp_A_H => [0xBC]
  | .cp_A_L => [0xBD]
  | .cp_A_atHL => [0xBE]
  | .cp_A_A => [0xBF]
  | .ret_NZ => [0xC0]
  | .pop_BC => [0xC1]
  | .jp_NZ_n16 => [0xC2]
  | .jp_n16 => [0xC3]
  | .call_NZ_n16 => [0xC4]
  | .push_BC => [0xC5]
  | .add_A_n8 => [0xC6]
  | .rst_0x00 => [0xC7]
  | .ret_Z => [0xC8]
  | .ret => [0xC9]
  | .jp_Z_n16 => [0xCA]
  | .prefix_CB => [0xCB]
  | .call_Z_n16 => [0xCC]
  | .call_n16 => [0xCD]
  | .adc_A_n8 => [0xCE]
  | .rst_0x08 => [0xCF]
  | .ret_NC => [0xD0]
  | .pop_DE => [0xD1]
  | .jp_NC_n16 => [0xD2]
  | .illegal_0xD3 => [0xD3]
  | .call_NC_n16 => [0xD4]
  | .push_DE => [0xD5]
  | .sub_A_n8 => [0xD6]
  | .rst_0x10 => [0xD7]
  | .ret_C => [0xD8]
  | .reti => [0xD9]
  | .jp_C_n16 => [0xDA]
  | .illegal_0xDB => [0xDB]
  | .call_C_n16 => [0xDC]
  | .illegal_0xDD => [0xDD]
  | .sbc_A_n8 => [0xDE]
  | .rst_0x18 => [0xDF]
  | .ldh_atN8_A => [0xE0]
  | .pop_HL => [0xE1]
  | .ldh_atC_A => [0xE2]
  | .illegal_0xE3 => [0xE3]
  | .illegal_0xE4 => [0xE4]
  | .push_HL => [0xE5]
  | .and_A_n8 => [0xE6]
  | .rst_0x20 => [0xE7]
  | .add_SP_e8 => [0xE8]
  | .jp_HL => [0xE9]
  | .ld_atN16_A => [0xEA]
  | .illegal_0xEB => [0xEB]
  | .illegal_0xEC => [0xEC]
  | .illegal_0xED => [0xED]
  | .xor_A_n8 => [0xEE]
  | .rst_0x28 => [0xEF]
  | .ldh_A_atN8 => [0xF0]
  | .pop_AF => [0xF1]
  | .ldh_A_atC => [0xF2]
  | .di => [0xF3]
  | .illegal_0xF4 => [0xF4]
  | .push_AF => [0xF5]
  | .or_A_n8 => [0xF6]
  | .rst_0x30 => [0xF7]
  | .ld_HL_SPe8 => [0xF8]
  | .ld_SP_HL => [0xF9]
  | .ld_A_atN16 => [0xFA]
  | .ei => [0xFB]
  | .illegal_0xFC => [0xFC]
  | .illegal_0xFD => [0xFD]
  | .cp_A_n8 => [0xFE]
  | .rst_0x38 => [0xFF]
  | .rlc_B => [0xCB, 0x00]
  | .rlc_C => [0xCB, 0x01]
  | .rlc_D => [0xCB, 0x02]
  | .rlc_E => [0xCB, 0x03]
  | .rlc_H => [0xCB, 0x04]
  | .rlc_L => [0xCB, 0x05]
  | .rlc_atHL => [0xCB, 0x06]
  | .rlc_A => [0xCB, 0x07]
  | .rrc_B => [0xCB, 0x08]
  | .rrc_C => [0xCB, 0x09]
  | .rrc_D => [0xCB, 0x0A]
  | .rrc_E => [0xCB, 0x0B]
  | .rrc_H => [0xCB, 0x0C]
  | .rrc_L => [0xCB, 0x0D]
  | .rrc_atHL => [0xCB, 0x0E]
  | .rrc_A => [0xCB, 0x0F]
  | .rl_B => [0xCB, 0x10]
  | .rl_C => [0xCB, 0x11]
  | .rl_D => [0xCB, 0x12]
  | .rl_E => [0xCB, 0x13]
  | .rl_H => [0xCB, 0x14]
  | .rl_L => [0xCB, 0x15]
  | .rl_atHL => [0xCB, 0x16]
  | .rl_A => [0xCB, 0x17]
  | .rr_B => [0xCB, 0x18]
  | .rr_C => [0xCB, 0x19]
  | .rr_D => [0xCB, 0x1A]
  | .rr_E => [0xCB, 0x1B]
  | .rr_H => [0xCB, 0x1C]
  | .rr_L => [0xCB, 0x1D]
  | .rr_atHL => [0xCB, 0x1E]
  | .rr_A => [0xCB, 0x1F]
  | .sla_B => [0xCB, 0x20]
  | .sla_C => [0xCB, 0x21]
  | .sla_D => [0xCB, 0x22]
  | .sla_E => [0xCB, 0x23]
  | .sla_H => [0xCB, 0x24]
  | .sla_L => [0xCB, 0x25]
  | .sla_atHL => [0xCB, 0x26]
  | .sla_A => [0xCB, 0x27]
  | .sra_B => [0xCB, 0x28]
  | .sra_C => [0xCB, 0x29]
  | .sra_D => [0xCB, 0x2A]
  | .sra_E => [0xCB, 0x2B]
  | .sra_H => [0xCB, 0x2C]
  | .sra_L => [0xCB, 0x2D]
  | .sra_atHL => [0xCB, 0x2E]
  | .sra_A => [0xCB, 0x2F]
  | .swap_B => [0xCB, 0x30]
  | .swap_C => [0xCB, 0x31]
  | .swap_D => [0xCB, 0x32]
  | .swap_E => [0xCB, 0x33]
  | .swap_H => [0xCB, 0x34]
  | .swap_L => [0xCB, 0x35]
  | .swap_atHL => [0xCB, 0x36]
  | .swap_A => [0xCB, 0x37]
  | .srl_B => [0xCB, 0x38]
  | .srl_C => [0xCB, 0x39]
  | .srl_D => [0xCB, 0x3A]
  | .srl_E => [0xCB, 0x3B]
  | .srl_H => [0xCB, 0x3C]
  | .srl_L => [0xCB, 0x3D]
  | .srl_atHL => [0xCB, 0x3E]
  | .srl_A => [0xCB, 0x3F]
  | .bit_0_B => [0xCB, 0x40]
  | .bit_0_C => [0xCB, 0x41]
  | .bit_0_D => [0xCB, 0x42]
  | .bit_0_E => [0xCB, 0x43]
  | .bit_0_H => [0xCB, 0x44]
  | .bit_0_L => [0xCB, 0x45]
  | .bit_0_atHL => [0xCB, 0x46]
  | .bit_0_A => [0xCB, 0x47]
  | .bit_1_B => [0xCB, 0x48]
  | .bit_1_C => [0xCB, 0x49]
  | .bit_1_D => [0xCB, 0x4A]
  | .bit_1_E => [0xCB, 0x4B]
  | .bit_1_H => [0xCB, 0x4C]
  | .bit_1_L => [0xCB, 0x4D]
  | .bit_1_atHL => [0xCB, 0x4E]
  | .bit_1_A => [0xCB, 0x4F]
  | .bit_2_B => [0xCB, 0x50]
  | .bit_2_C => [0xCB, 0x51]
  | .bit_2_D => [0xCB, 0x52]
  | .bit_2_E => [0xCB, 0x53]
  | .bit_2_H => [0xCB, 0x54]
  | .bit_2_L => [0xCB, 0x55]
  | .bit_2_atHL => [0xCB, 0x56]
  | .bit_2_A => [0xCB, 0x57]
  | .bit_3_B => [0xCB, 0x58]
  | .bit_3_C => [0xCB, 0x59]
  | .bit_3_D => [0xCB, 0x5A]
  | .bit_3_E => [0xCB, 0x5B]
  | .bit_3_H => [0xCB, 0x5C]
  | .bit_3_L => [0xCB, 0x5D]
  | .bit_3_atHL => [0xCB, 0x5E]
  | .bit_3_A => [0xCB, 0x5F]
  | .bit_4_B => [0xCB, 0x60]
  | .bit_4_C => [0xCB, 0x61]
  | .bit_4_D => [0xCB, 0x62]
  | .bit_4_E => [0xCB, 0x63]
  | .bit_4_H => [0xCB, 0x64]
  | .bit_4_L => [0xCB, 0x65]
  | .bit_4_atHL => [0xCB, 0x66]
  | .bit_4_A => [0xCB, 0x67]
  | .bit_5_B => [0xCB, 0x68]
  | .bit_5_C => [0xCB, 0x69]
  | .bit_5_D => [0xCB, 0x6A]
  | .bit_5_E => [0xCB, 0x6B]
  | .bit_5_H => [0xCB, 0x6C]
  | .bit_5_L => [0xCB, 0x6D]
  | .bit_5_atHL => [0xCB, 0x6E]
  | .bit_5_A => [0xCB, 0x6F]
  | .bit_6_B => [0xCB, 0x70]
  | .bit_6_C => [0xCB, 0x71]
  | .bit_6_D => [0xCB, 0x72]
  | .bit_6_E => [0xCB, 0x73]
  | .bit_6_H => [0xCB, 0x74]
  | .bit_6_L => [0xCB, 0x75]
  | .bit_6_atHL => [0xCB, 0x76]
  | .bit_6_A => [0xCB, 0x77]
  | .bit_7_B => [0xCB, 0x78]
  | .bit_7_C => [0xCB, 0x79]
  | .bit_7_D => [0xCB, 0x7A]
  | .bit_7_E => [0xCB, 0x7B]
  | .bit_7_H => [0xCB, 0x7C]
  | .bit_7_L => [0xCB, 0x7D]
  | .bit_7_atHL => [0xCB, 0x7E]
  | .bit_7_A => [0xCB, 0x7F]
  | .res_0_B => [0xCB, 0x80]
  | .res_0_C => [0xCB, 0x81]
  | .res_0_D => [0xCB, 0x82]
  | .res_0_E => [0xCB, 0x83]
  | .res_0_H => [0xCB, 0x84]
  | .res_0_L => [0xCB, 0x85]
  | .res_0_atHL => [0xCB, 0x86]
  | .res_0_A => [0xCB, 0x87]
  | .res_1_B => [0xCB, 0x88]
  | .res_1_C => [0xCB, 0x89]
  | .res_1_D => [0xCB, 0x8A]
  | .res_1_E => [0xCB, 0x8B]
  | .res_1_H => [0xCB, 0x8C]
  | .res_1_L => [0xCB, 0x8D]
  | .res_1_atHL => [0xCB, 0x8E]
  | .res_1_A => [0xCB, 0x8F]
  | .res_2_B => [0xCB, 0x90]
  | .res_2_C => [0xCB, 0x91]
  | .res_2_D => [0xCB, 0x92]
  | .res_2_E => [0xCB, 0x93]
  | .res_2_H => [0xCB, 0x94]
  | .res_2_L => [0xCB, 0x95]
  | .res_2_atHL => [0xCB, 0x96]
  | .res_2_A => [0xCB, 0x97]
  | .res_3_B => [0xCB, 0x98]
  | .res_3_C => [0xCB, 0x99]
  | .res_3_D => [0xCB, 0x9A]
  | .res_3_E => [0xCB, 0x9B]
  | .res_3_H => [0xCB, 0x9C]
  | .res_3_L => [0xCB, 0x9D]
  | .res_3_atHL => [0xCB, 0x9E]
  | .res_3_A => [0xCB, 0x9F]
  | .res_4_B => [0xCB, 0xA0]
  | .res_4_C => [0xCB, 0xA1]
  | .res_4_D => [0xCB, 0xA2]
  | .res_4_E => [0xCB, 0xA3]
  | .res_4_H => [0xCB, 0xA4]
  | .res_4_L => [0xCB, 0xA5]
  | .res_4_atHL => [0xCB, 0xA6]
  | .res_4_A => [0xCB, 0xA7]
  | .res_5_B => [0xCB, 0xA8]
  | .res_5_C => [0xCB, 0xA9]
  | .res_5_D => [0xCB, 0xAA]
  | .res_5_E => [0xCB, 0xAB]
  | .res_5_H => [0xCB, 0xAC]
  | .res_5_L => [0xCB, 0xAD]
  | .res_5_atHL => [0xCB, 0xAE]
  | .res_5_A => [0xCB, 0xAF]
  | .res_6_B => [0xCB, 0xB0]
  | .res_6_C => [0xCB, 0xB1]
  | .res_6_D => [0xCB, 0xB2]
  | .res_6_E => [0xCB, 0xB3]
  | .res_6_H => [0xCB, 0xB4]
  | .res_6_L => [0xCB, 0xB5]
  | .res_6_atHL => [0xCB, 0xB6]
  | .res_6_A => [0xCB, 0xB7]
  | .res_7_B => [0xCB, 0xB8]
  | .res_7_C => [0xCB, 0xB9]
  | .res_7_D => [0xCB, 0xBA]
  | .res_7_E => [0xCB, 0xBB]
  | .res_7_H => [0xCB, 0xBC]
  | .res_7_L => [0xCB, 0xBD]
  | .res_7_atHL => [0xCB, 0xBE]
  | .res_7_A => [0xCB, 0xBF]
  | .set_0_B => [0xCB, 0xC0]
  | .set_0_C => [0xCB, 0xC1]
  | .set_0_D => [0xCB, 0xC2]
  | .set_0_E => [0xCB, 0xC3]
  | .set_0_H => [0xCB, 0xC4]
  | .set_0_L => [0xCB, 0xC5]
  | .set_0_atHL => [0xCB, 0xC6]
  | .set_0_A => [0xCB, 0xC7]
  | .set_1_B => [0xCB, 0xC8]
  | .set_1_C => [0xCB, 0xC9]
  | .set_1_D => [0xCB, 0xCA]
  | .set_1_E => [0xCB, 0xCB]
  | .set_1_H => [0xCB, 0xCC]
  | .set_1_L => [0xCB, 0xCD]
  | .set_1_atHL => [0xCB, 0xCE]
  | .set_1_A => [0xCB, 0xCF]
  | .set_2_B => [0xCB, 0xD0]
  | .set_2_C => [0xCB, 0xD1]
  | .set_2_D => [0xCB, 0xD2]
  | .set_2_E => [0xCB, 0xD3]
  | .set_2_H => [0xCB, 0xD4]
  | .set_2_L => [0xCB, 0xD5]
  | .set_2_atHL => [0xCB, 0xD6]
  | .set_2_A => [0xCB, 0xD7]
  | .set_3_B => [0xCB, 0xD8]
  | .set_3_C => [0xCB, 0xD9]
  | .set_3_D => [0xCB, 0xDA]
  | .set_3_E => [0xCB, 0xDB]
  | .set_3_H => [0xCB, 0xDC]
  | .set_3_L => [0xCB, 0xDD]
  | .set_3_atHL => [0xCB, 0xDE]
  | .set_3_A => [0xCB, 0xDF]
  | .set_4_B => [0xCB, 0xE0]
  | .set_4_C => [0xCB, 0xE1]
  | .set_4_D => [0xCB, 0xE2]
  | .set_4_E => [0xCB, 0xE3]
  | .set_4_H => [0xCB, 0xE4]
  | .set_4_L => [0xCB, 0xE5]
  | .set_4_atHL => [0xCB, 0xE6]
  | .set_4_A => [0xCB, 0xE7]
  | .set_5_B => [0xCB, 0xE8]
  | .set_5_C => [0xCB, 0xE9]
  | .set_5_D => [0xCB, 0xEA]
  | .set_5_E => [0xCB, 0xEB]
  | .set_5_H => [0xCB, 0xEC]
  | .set_5_L => [0xCB, 0xED]
  | .set_5_atHL => [0xCB, 0xEE]
  | .set_5_A => [0xCB, 0xEF]
  | .set_6_B => [0xCB, 0xF0]
  | .set_6_C => [0xCB, 0xF1]
  | .set_6_D => [0xCB, 0xF2]
  | .set_6_E => [0xCB, 0xF3]
  | .set_6_H => [0xCB, 0xF4]
  | .set_6_L => [0xCB, 0xF5]
  | .set_6_atHL => [0xCB, 0xF6]
  | .set_6_A => [0xCB, 0xF7]
  | .set_7_B => [0xCB, 0xF8]
  | .set_7_C => [0xCB, 0xF9]
  | .set_7_D => [0xCB, 0xFA]
  | .set_7_E => [0xCB, 0xFB]
  | .set_7_H => [0xCB, 0xFC]
  | .set_7_L => [0xCB, 0xFD]
  | .set_7_atHL => [0xCB, 0xFE]
  | .set_7_A => [0xCB, 0xFF]

/-- The length of an instruction in bytes, opcode and operand bytes together (30_encoding.md R80, R91). -/
def instrLength (i : Instr) : Nat := (encode i).length + operandBytes i

/-- The bytes, first byte first, of an instruction whose bits are `w` as the opcode table numbers them: a row of
the base table is one opcode byte in bits 7 to 0; a row of the extended table has the prefix 0xCB in bits 15 to 8
and the second byte in bits 7 to 0 (30_encoding.md R98; log 11). A wider word counts on from its first byte. Bytes
above are 0, up to the longest instruction. -/
def tableBytes (nbits w : Nat) : List Byte :=
  if 8 < nbits ∧ nbits ≤ 16 ∧ w / 256 % 256 = 0xCB then [0xCB, BitVec.ofNat 8 w, 0]
  else if nbits ≤ 8 then [BitVec.ofNat 8 w, 0, 0]
  else if nbits ≤ 16 then [BitVec.ofNat 8 w, BitVec.ofNat 8 (w / 256), 0]
  else [BitVec.ofNat 8 w, BitVec.ofNat 8 (w / 256), BitVec.ofNat 8 (w / 65536)]

/-- The instruction the decoder reads from a row's bits: the base decoder for a row of the base table, the
extended decoder after 0xCB for a row of the extended table (log 11). -/
def decodeTableWord (nbits w : Nat) : Option Instr :=
  match tableBytes nbits w with
  | b :: b2 :: _ => if 8 < nbits ∧ decodeBase b = .prefix_CB then some (decodeExt b2) else some (decodeBase b)
  | _ => none

end Sys2Proof
end

