-- ==== Sys2Proof/Config.lean ====
section
/-! DEFINITION. What the spec leaves as a parameter (00_scope.md R3): `Bus`, `INT_VECTOR` and `RESET_REGS`, as
arguments (`Params`) with the spec's default of each, and what a byte of memory that nothing has written reads as. -/

namespace Sys2Proof

/-- The register values after reset that the spec leaves unspecified (10_state.md R38,
70_reset_and_hazards.md R340): A, bits 7 to 4 of F, B, C, D, E, H, L and SP. -/
structure ResetRegs where
  /-- register A -/
  a : Byte
  /-- bits 7 to 4 of F; bits 3 to 0 are hard-wired 0 (10_state.md R23) -/
  flags : BitVec 4
  /-- register B -/
  b : Byte
  /-- register C -/
  c : Byte
  /-- register D -/
  d : Byte
  /-- register E -/
  e : Byte
  /-- register H -/
  h : Byte
  /-- register L -/
  l : Byte
  /-- the stack pointer -/
  sp : Word
  deriving DecidableEq, Repr

/-- `Bus` (20_memory.md R51, R58): what stands behind the bus, over a platform state of any type: a byte read, which
may change the platform (a device register), a byte write, and `MemPeek` (60_exceptions.md R304), which may not. -/
structure Bus (σ : Type) where
  /-- `MemRead(a, 1)` -/
  read : σ → Word → Byte × σ
  /-- `MemWrite(a, 1, v)` -/
  write : σ → Word → Byte → σ
  /-- `MemPeek(a)` -/
  peek : σ → Word → Byte

/-- The three parameters of the core (00_scope.md R3; 92_eei_decisions.md: `Bus` D18, `INT_VECTOR` D10, `RESET_REGS`
D15). Machine/Platform.lean is the core for any of them. -/
structure Params (σ : Type) where
  /-- the memory behind the bus -/
  bus : Bus σ
  /-- the vector of each interrupt type (60_exceptions.md R318) -/
  intVector : Fin 5 → Word
  /-- the register values after reset that the spec leaves open -/
  resetRegs : ResetRegs

namespace Config

/-- DESIGN CHOICE (log 1, unsafe): the spec leaves `RESET_REGS` open; `State.reset` takes zero for each.
Statements about reset use `State.resetWith`, which holds for every value. -/
def resetRegs : ResetRegs :=
  { a := 0, flags := 0, b := 0, c := 0, d := 0, e := 0, h := 0, l := 0, sp := 0 }

/-- DESIGN CHOICE (log 2, unsafe): what a byte of memory that no entry lists reads as.
The spec leaves the initial content to the `Bus` parameter (20_memory.md R56); R349 lets a model take
cells that a record does not list as 0. -/
def unlistedByte : Byte := 0x00

/-- The default of the parameter `INT_VECTOR`: `0x0040 + 8 * i` (60_exceptions.md R318, 92_eei_decisions.md D10;
log 9). -/
def intVector (i : Fin 5) : Word := BitVec.ofNat 16 (0x0040 + 8 * i.val)

/-- The other table that the spec admits (60_exceptions.md R318, 90_conflicts.md C5): the source's literals, entry 3
set to 0x0056. -/
def intVectorOfSource (i : Fin 5) : Word := if i = 3 then 0x0056 else intVector i

end Config

end Sys2Proof
end

