-- ==== Sys2Proof/Machine/State.lean ====
section
/-! DEFINITION. The state of the SM83 core (10_state.md section 1), what a step reports (47_system.md
R267), the reasons a step can stop, and the state after reset (70_reset_and_hazards.md R340). -/

namespace Sys2Proof.Machine

/-- The run state of the fetch state machine (10_state.md R33). -/
inductive RunState where
  /-- the next step fetches an instruction at PC -/
  | fetching
  /-- inside one step only: the byte 0xCB was fetched and the next byte is decoded by the extended table -/
  | prefixPending
  /-- HALT was executed: the core fetches nothing until an enabled interrupt is requested -/
  | halted
  /-- STOP was executed: only reset leaves this state -/
  | stopped
  /-- the illegal opcode byte `b` was fetched: only reset leaves this state -/
  | faulted (b : Byte)
  deriving DecidableEq, Repr

/-- The status a step returns (47_system.md R267). -/
inductive StepStatus where
  /-- an instruction other than HALT and STOP was executed -/
  | ran
  /-- interrupt type `i` was dispatched instead of an instruction -/
  | interrupt (i : Fin 5)
  /-- HALT was executed, or the core was halted with nothing pending -/
  | halted
  /-- STOP was executed, or the core was already stopped -/
  | stopped
  /-- the illegal opcode `b` was fetched -/
  | faulted (b : Byte)
  deriving DecidableEq, Repr

/-- One access of the bus (20_memory.md R51): a byte read at an address, or a byte written at one. -/
inductive BusAccess where
  | read (addr : Word)
  | write (addr : Word) (v : Byte)
  deriving DecidableEq, Repr

/-- The 65,536 bytes behind the bus (20_memory.md R50, R56) as a list of (address, byte) pairs in one
canonical form (`Memory.wf`): addresses rising, below 65,536, and no entry equal to
`Config.unlistedByte`, which is what an unlisted address reads as. IE is the byte at 0xFFFF and IF the
byte at 0xFF0F (10_state.md R34, R35). -/
abbrev Memory := List Host.Cell

/-- The whole state (10_state.md section 1), and three fields of the model's own (log 3) that hold what
the last step returned and did. -/
structure State where
  /-- A, the accumulator (10_state.md R20) -/
  a : Byte
  /-- F, the flags Z N H C in bits 7 to 4; bits 3 to 0 are hard-wired 0 (10_state.md R22, R23) -/
  f : Byte
  /-- B (10_state.md R20) -/
  b : Byte
  /-- C (10_state.md R20) -/
  c : Byte
  /-- D (10_state.md R20) -/
  d : Byte
  /-- E (10_state.md R20) -/
  e : Byte
  /-- H (10_state.md R20) -/
  h : Byte
  /-- L (10_state.md R20) -/
  l : Byte
  /-- the stack pointer (10_state.md R24) -/
  sp : Word
  /-- the program counter (10_state.md R25) -/
  pc : Word
  /-- IME, the interrupt master enable (10_state.md R31) -/
  ime : Bool
  /-- ime_pending, the delayed effect of EI (10_state.md R32) -/
  imePending : Bool
  /-- the run state (10_state.md R33) -/
  run : RunState
  /-- memory, IE and IF among it (20_memory.md R50) -/
  mem : Memory
  /-- the status the last step returned (47_system.md R267; log 3) -/
  status : StepStatus
  /-- the machine cycles the last step returned (47_system.md R267; log 3) -/
  cycles : Nat
  /-- the bus accesses of the last step, in order (20_memory.md R58, R63, R68; log 3) -/
  bus : List BusAccess
  deriving DecidableEq, Repr

/-- Why the machine stops with a fault. -/
inductive Fault where
  /-- Raised by a step that starts in `Faulted(b)`: the illegal opcode `b` was fetched by an earlier step
  (47_system.md R265 part 1, R267 "Faulted(b) to fault"; log 4). Safe: the spec's core returns
  (Faulted(b), 0) and changes nothing, for ever. -/
  | illegalOpcode (b : Byte)
  deriving DecidableEq, Repr

/-- Why the model gives an instruction no meaning. -/
inductive Refusal where
  /-- Raised by an arm of `exec` whose instruction has no meaning yet, with its mnemonic. Safe. No arm of
  this model does: every byte has a defined verdict (47_system.md R267). -/
  | notModelled (mnemonic : String)
  deriving DecidableEq, Repr

/-- What an instruction or a step answers. -/
abbrev Result := Host.Outcome State Fault Refusal

/-- The state after reset for given register values and a given memory content
(10_state.md R38, 70_reset_and_hazards.md R340): PC at 0x0000, interrupts off, `Fetching`, the low nibble
of F zero; `r` is the parameter RESET_REGS and `m` the Bus parameter's own content. -/
def State.resetWith (r : ResetRegs) (m : Memory) : State :=
  { a := r.a, f := BitVec.ofNat 8 (16 * r.flags.toNat), b := r.b, c := r.c, d := r.d, e := r.e
    h := r.h, l := r.l, sp := r.sp, pc := 0x0000, ime := false, imePending := false
    run := .fetching, mem := m, status := .ran, cycles := 0, bus := [] }

/-- The machine right after reset: PC, IME, ime_pending, run and F[3:0] as 10_state.md R38 says, the open
registers as `Config.resetRegs` names them (log 1), memory with nothing listed (log 2), and no step made
yet (log 3). -/
def State.reset : State := State.resetWith Config.resetRegs []

end Sys2Proof.Machine
end

