-- ==== Sys2Proof/Machine/Bus.lean ====
section
/-! DEFINITION. The bus: the memory list that is its default, programs of bus accesses, and what such a program does
on any bus (20_memory.md R51, R56, R58). Every effect of the core is such a program, so that the core reaches memory
through the bus and in no other way. -/

namespace Sys2Proof.Machine

/-- The byte a memory holds at an address; an unlisted address reads `Config.unlistedByte` (log 2). -/
def Memory.read : Memory → Nat → Byte
  | [], _ => Config.unlistedByte
  | (k, w) :: rest, a => if k = a then w else Memory.read rest a

/-- The memory with no entry for `a` (every entry for it taken out, also where the list is in no canonical form). -/
def Memory.remove (a : Nat) : Memory → Memory
  | [] => []
  | (k, w) :: rest => if k = a then Memory.remove a rest else (k, w) :: Memory.remove a rest

/-- An entry put before the first entry of a higher address. -/
def Memory.insert (a : Nat) (v : Byte) : Memory → Memory
  | [] => [(a, v)]
  | (k, w) :: rest => if a < k then (a, v) :: (k, w) :: rest else (k, w) :: Memory.insert a v rest

/-- The memory with the byte at one address replaced (20_memory.md R56: "a write changes that one byte and
nothing else"); it keeps the canonical form: a byte equal to what an unlisted address reads as is not listed. -/
def Memory.write (m : Memory) (a : Nat) (v : Byte) : Memory :=
  if v = Config.unlistedByte then Memory.remove a m else Memory.insert a v (Memory.remove a m)

/-- The canonical form from an address on: addresses rising from `lo` and below 65,536, no entry equal to
what an unlisted address reads as. -/
def Memory.wfFrom (lo : Nat) : Memory → Bool
  | [] => true
  | (k, v) :: rest =>
    decide (lo ≤ k) && decide (k < 65536) && decide (v ≠ Config.unlistedByte) && Memory.wfFrom (k + 1) rest

/-- The canonical form of a memory. -/
def Memory.wf (m : Memory) : Bool := Memory.wfFrom 0 m

/-- The default of the parameter `Bus` (20_memory.md R56, 92_eei_decisions.md D18; log 8): 65,536 bytes of storage, a
read has no side effect, a write changes that one byte. -/
def flatBus : Bus Memory where
  read m a := (Memory.read m a.toNat, m)
  write m a v := Memory.write m a.toNat v
  peek m a := Memory.read m a.toNat

/-- What the core does on the bus, in order, up to a result (20_memory.md R58: "which addresses are accessed, with which
values, in which order"): what follows a read depends on the byte the bus answers. -/
inductive BusProg (α : Type) where
  /-- no further access -/
  | done (x : α)
  /-- `MemRead(a, 1)`, then what `k` says of the byte read -/
  | read (a : Word) (k : Byte → BusProg α)
  /-- `MemWrite(a, 1, v)`, then `k` -/
  | write (a : Word) (v : Byte) (k : BusProg α)

/-- A program on a bus: its result, the platform after it, and the trace extended by its accesses. -/
def BusProg.runOn {α σ : Type} (β : Bus σ) : BusProg α → σ → List BusAccess → α × σ × List BusAccess
  | .done x, p, tr => (x, p, tr)
  | .read a k, p, tr => (k (β.read p a).1).runOn β (β.read p a).2 (tr ++ [.read a])
  | .write a v k, p, tr => k.runOn β (β.write p a v) (tr ++ [.write a v])

/-- A program on the default bus, from the memory and the trace of `s`: its value, and the state it ends in with the
memory and the trace it leaves. Inside a program a state carries registers only; memory is reached by the bus. -/
def State.runProg {α : Type} (s : State) (P : BusProg (α × State)) : α × State :=
  let r := P.runOn flatBus s.mem s.bus
  (r.1.1, { r.1.2 with mem := r.2.1, bus := r.2.2 })

/-- The state that an effect leaves on the default bus. -/
def onFlat (effect : State → BusProg State) (s : State) : State :=
  let r := (effect s).runOn flatBus s.mem s.bus
  { r.1 with mem := r.2.1, bus := r.2.2 }

/-- `MemPeek(a)` on the default bus: the byte at `a`, no bus access (60_exceptions.md R304). -/
def State.peek (s : State) (a : Word) : Byte := flatBus.peek s.mem a

/-- `MemRead(a, 1)` on the default bus (20_memory.md R51): one bus access; a read has no side effect on memory (R56). -/
def State.memRead (s : State) (a : Word) : Byte × State := s.runProg (.read a fun v => .done (v, s))

/-- `MemWrite(a, 1, v)` on the default bus (20_memory.md R51): one bus access; the write changes that one byte (R56). -/
def State.memWrite (s : State) (a : Word) (v : Byte) : State := onFlat (fun s => .write a v (.done s)) s

end Sys2Proof.Machine
end

