-- ==== Sys2Proof/Machine/Ops.lean ====
section
/-! DEFINITION. The named operations that instructions share, as programs of bus accesses: word writes, fetch and
stack (20_memory.md R53, R60 to R62); what a step returns (47_system.md R267); the one synchronous exception
(60_exceptions.md R301); interrupt dispatch and return (R304 to R310, 45_control.md R249); what a step does at its
start and its end (47_system.md R265); interrupt requests (20_memory.md R66) and reset (70_reset_and_hazards.md R340).
An operation hands its result and the state after it to what follows, `k`. -/

namespace Sys2Proof.Machine

variable {α : Type}

/-- `MemWrite(a, 2, v)`: the low byte at `a`, then the high byte at `a + 1` modulo 2^16 (20_memory.md R53, R59). -/
def BusProg.write16 (a v : Word) (k : BusProg α) : BusProg α := .write a (lo v) (.write (a + 1) (hi v) k)

/-- `Fetch8()`: the byte at PC; PC advances by 1 modulo 2^16 (20_memory.md R60). -/
def State.fetch8 (s : State) (k : Byte → State → BusProg α) : BusProg α :=
  .read s.pc fun b => k b { s with pc := s.pc + 1 }

/-- `Fetch16()`: two fetched bytes, the low byte first (20_memory.md R60). -/
def State.fetch16 (s : State) (k : Word → State → BusProg α) : BusProg α :=
  s.fetch8 fun l s => s.fetch8 fun h s => k (cat h l) s

/-- `Push16(v)`: SP down by 2, the high byte written first at `SP + 1`, then the low byte at SP
(20_memory.md R61, 90_conflicts.md C3). -/
def State.push16 (s : State) (v : Word) (k : State → BusProg α) : BusProg α :=
  let s := { s with sp := s.sp - 2 }
  .write (s.sp + 1) (hi v) (.write s.sp (lo v) (k s))

/-- `Pop16()`: the low byte at SP, the high byte at `SP + 1`, then SP up by 2 (20_memory.md R62). -/
def State.pop16 (s : State) (k : Word → State → BusProg α) : BusProg α :=
  .read s.sp fun l => .read (s.sp + 1) fun h => k (cat h l) { s with sp := s.sp + 2 }

/-- What a step returns: a status and a count of machine cycles (47_system.md R267). -/
def State.report (s : State) (st : StepStatus) (n : Nat) : State := { s with status := st, cycles := n }

/-- `cycles n` with status `Ran` (00_scope.md R7, 47_system.md R266). -/
def State.ran (s : State) (n : Nat) : State := s.report .ran n

/-- The end of an instruction of `n` machine cycles. -/
def State.finish (s : State) (n : Nat) : BusProg State := .done (s.ran n)

/-- `raise IllegalOpcode(b)` (60_exceptions.md R301): run <- Faulted(b), the step returns (Faulted(b), 0);
PC stays where the opcode fetch left it and nothing else changes. -/
def State.raiseIllegalOpcode (s : State) (b : Byte) : State :=
  { s with run := .faulted b }.report (.faulted b) 0

/-- The address of IE (10_state.md R34). -/
def addrIE : Word := 0xFFFF

/-- The address of IF (10_state.md R35). -/
def addrIF : Word := 0xFF0F

/-- `Pending()`: IE & IF & 0x1F, read by `MemPeek` with no bus access (60_exceptions.md R304). -/
def pendingIn (peek : Word → Byte) : Byte := peek addrIE &&& peek addrIF &&& 0x1F

/-- `Pending()` on the default bus. -/
def State.pending (s : State) : Byte := pendingIn s.peek

/-- `Selected(pend)`: the least index with its bit set; none when nothing is pending (60_exceptions.md R304). -/
def selected (pend : Byte) : Option (Fin 5) :=
  if pend.getLsbD 0 then some 0
  else if pend.getLsbD 1 then some 1
  else if pend.getLsbD 2 then some 2
  else if pend.getLsbD 3 then some 3
  else if pend.getLsbD 4 then some 4
  else none

/-- The byte of IF once type `i` is acknowledged: bit `i` cleared and the other seven as read (60_exceptions.md R305). -/
def acknowledged (v : Byte) (i : Fin 5) : Byte := v &&& ~~~((1 : Byte) <<< i.val)

/-- `IntAck(i)`: read IF, write it back acknowledged (60_exceptions.md R305). -/
def BusProg.intAck (i : Fin 5) (k : BusProg α) : BusProg α :=
  .read addrIF fun v => .write addrIF (acknowledged v i) k

/-- `Dispatch(i)` with the vector table `vec` (60_exceptions.md R307, R318): interrupts off, acknowledge, push PC, go to
the vector; the step returns (Interrupt(i), 5). -/
def dispatch (vec : Fin 5 → Word) (i : Fin 5) (s : State) : BusProg State :=
  let s := { s with ime := false, imePending := false }
  .intAck i (s.push16 s.pc fun s => .done ({ s with pc := vec i }.report (.interrupt i) 5))

/-- The return from an interrupt: PC popped, IME set at once, ime_pending cleared (45_control.md R249,
60_exceptions.md R309). -/
def State.returnFromInterrupt (s : State) (k : State → BusProg α) : BusProg α :=
  s.pop16 fun w s => k { s with pc := w, ime := true, imePending := false }

/-- What a step does, once the pending set is sampled (47_system.md R265 parts 1 to 4). -/
inductive StepAction where
  /-- the step returns that status and count, and does nothing else -/
  | idle (st : StepStatus) (n : Nat)
  /-- the core is in `Faulted(b)` -/
  | fault (b : Byte)
  /-- interrupt type `i` is dispatched and no instruction runs -/
  | dispatch (i : Fin 5)
  /-- one instruction runs -/
  | execute
  deriving DecidableEq, Repr

/-- Part 4 of the step (47_system.md R265): with IME = 1 and something pending the lowest type is dispatched. -/
def State.boundaryAction (s : State) (pend : Byte) : StepAction :=
  match (if s.ime then selected pend else none) with
  | some i => .dispatch i
  | none => .execute

/-- Parts 1 to 4 of the step (47_system.md R265). A stopped core returns (Stopped, 0); a faulted one is this model's fault
(R267; log 4); a halted one idles, returning (Halted, 1), or wakes in this step when something is pending, whatever IME
is (60_exceptions.md R310). -/
def State.action (s : State) (pend : Byte) : StepAction :=
  match s.run with
  | .stopped => .idle .stopped 0
  | .faulted b => .fault b
  | .halted => if pend = 0 then .idle .halted 1 else s.boundaryAction pend
  | .fetching => s.boundaryAction pend
  | .prefixPending => s.boundaryAction pend

/-- The core at a step boundary that it passes: the run state is `Fetching` (part 3 wakes a halted core; log 13). -/
def State.awake (s : State) : State := { s with run := .fetching }

/-- The end of a step that executed an instruction (47_system.md R265 part 5): with `p` the value of
ime_pending before the instruction, IME becomes 1 if ime_pending is still 1; a faulting step ended at the
raise and consumes nothing. -/
def State.consumeImePending (s : State) (p : Bool) : State :=
  match s.run with
  | .faulted _ => s
  | _ => if p && s.imePending then { s with ime := true, imePending := false } else s

/-- An outside agent requests the interrupt types of `m` between steps: it sets those bits of IF and does
nothing else (20_memory.md R66, 60_exceptions.md R303). It is not an access of the core's bus.
(On the default bus; the agents of a platform act on it by themselves, `envStepOn`.) -/
def State.requestInterrupts (s : State) (m : BitVec 5) : State :=
  { s with mem := Memory.write s.mem addrIF.toNat (s.peek addrIF ||| BitVec.ofNat 8 m.toNat) }

/-- The reset event from any state (70_reset_and_hazards.md R340): the reset state with the values `r`;
memory is not touched by the core. -/
def State.resetEvent (s : State) (r : ResetRegs) : State := State.resetWith r s.mem

/-- The bytes `bs` stored at `a`, `a + 1`, … modulo 2^16 from outside the core (a loader; no bus access). -/
def State.place (s : State) (a : Word) : List Byte → State
  | [] => s
  | v :: bs => State.place { s with mem := Memory.write s.mem a.toNat v } (a + 1) bs

end Sys2Proof.Machine
end

