-- ==== Sys2Proof/Machine/Cycle.lean ====
section
/-! DEFINITION. The instruction cycle on the default bus (47_system.md R265, R266), over whatever executes a decoded
instruction and for any vector table: Machine/Step.lean puts `exec` and the default table there. -/

namespace Sys2Proof.Machine

/-- `ExecuteOne` (47_system.md R266): the opcode is fetched and decoded, and its instruction runs. For the prefix 0xCB
the second fetch and the extended decoder are in the meaning of the prefix (R275). -/
def executeOneWith (run : Instr → State → Result) (s : State) : Result :=
  let (b, s) := s.runProg (s.fetch8 fun b s => .done (b, s))
  run (decodeBase b) s

/-- The end of a step that executed an instruction (47_system.md R265 part 5). -/
def finishInstruction (p : Bool) : Result → Result
  | .next t => .next (t.consumeImePending p)
  | .fault r => .fault r
  | .refused r => .refused r

/-- `Step()` (47_system.md R265) with the vector table `vec`: the pending set is sampled, and the step does what
`State.action` says. `bus` holds the accesses of this step alone (log 3). -/
def stepWith (vec : Fin 5 → Word) (run : Instr → State → Result) (s : State) : Result :=
  let s := { s with bus := [] }
  match s.action s.pending with
  | .idle st n => .next (s.report st n)
  | .fault b => .fault (.illegalOpcode b)
  | .dispatch i => .next (onFlat (dispatch vec i) s.awake)
  | .execute => finishInstruction s.imePending (executeOneWith run s.awake)

/-- `s` ready to fetch at PC (a run state that fetches, and no interrupt taken instead): IME is cleared only where an
interrupt would be dispatched in place of the instruction. -/
def State.readyToFetch (s : State) : State :=
  { s with run := .fetching, ime := s.ime && decide (s.pending = 0) }

end Sys2Proof.Machine
end

