-- ==== Sys2Proof/Machine/Flags.lean ====
section
/-! DEFINITION. The flag register (10_state.md R22, R23, R30) and every computation of a result with its
flags: `Add8`, `Sub8`, the logic operations, INC and DEC (42_alu8.md R150 to R156), DAA (R181), the
16-bit additions (41_load16.md R144, 43_alu16.md R192), rotates and shifts (44_rotate_shift_bit.md R204). -/

namespace Sys2Proof.Machine

/-- F as it reads: bits 3 to 0 read as 0 (10_state.md R23). -/
def State.readF (s : State) : Byte := s.f &&& 0xF0

/-- A write of F: writes to bits 3 to 0 are ignored (10_state.md R23). -/
def State.writeF (s : State) (v : Byte) : State := { s with f := v &&& 0xF0 }

/-- Z, bit 7 of F (10_state.md R22). -/
def State.flagZ (s : State) : Bool := s.f.getLsbD 7

/-- N, bit 6 of F (10_state.md R22). -/
def State.flagN (s : State) : Bool := s.f.getLsbD 6

/-- H, bit 5 of F (10_state.md R22). -/
def State.flagH (s : State) : Bool := s.f.getLsbD 5

/-- C, bit 4 of F (10_state.md R22). -/
def State.flagC (s : State) : Bool := s.f.getLsbD 4

/-- The byte with Z, N, H, C in bits 7, 6, 5, 4 and 0 below (10_state.md R22, R23). -/
def flagByte (z n h c : Bool) : Byte :=
  BitVec.ofNat 8 (128 * z.toNat + 64 * n.toNat + 32 * h.toNat + 16 * c.toNat)

/-- A write of all four flags; an instruction that leaves a flag alone passes its old value. -/
def State.setFlags (s : State) (z n h c : Bool) : State := { s with f := flagByte z n h c }

/-- `cond(i)` on the flags (10_state.md R30). -/
def State.holds (s : State) : Cond → Bool
  | .nz => !s.flagZ
  | .z => s.flagZ
  | .nc => !s.flagC
  | .c => s.flagC

/-- A byte result with its half-carry and carry. -/
structure ByteResult where
  /-- the result byte -/
  val : Byte
  /-- carry or borrow out of bit 3 -/
  h : Bool
  /-- carry or borrow out of bit 7, or the bit moved out -/
  c : Bool
  deriving DecidableEq, Repr

/-- `Add8(a, b, cin)` (42_alu8.md R150). -/
def add8 (a b : Byte) (cin : Bool) : ByteResult :=
  let sum := a.toNat + b.toNat + cin.toNat
  { val := BitVec.ofNat 8 sum
    h := decide (a.toNat % 16 + b.toNat % 16 + cin.toNat > 0x0F)
    c := decide (sum > 0xFF) }

/-- `Sub8(a, b, cin)` (42_alu8.md R151): the flags are borrows, compared as integers. -/
def sub8 (a b : Byte) (cin : Bool) : ByteResult :=
  { val := BitVec.ofInt 8 ((a.toNat : Int) - (b.toNat : Int) - (cin.toNat : Int))
    h := decide (a.toNat % 16 < b.toNat % 16 + cin.toNat)
    c := decide (a.toNat < b.toNat + cin.toNat) }

/-- The 8-bit increment of INC (42_alu8.md R153): result and half-carry. -/
def inc8 (v : Byte) : Byte × Bool := (v + 1, decide (v.toNat % 16 = 0x0F))

/-- The 8-bit decrement of DEC (42_alu8.md R155): result and half-borrow. -/
def dec8 (v : Byte) : Byte × Bool := (v - 1, decide (v.toNat % 16 = 0x00))

/-- A and its new carry after DAA, from A, N, H and C (42_alu8.md R181). -/
def daa8 (a : Byte) (n h c : Bool) : Byte × Bool :=
  if n then
    let a1 := if c then a - 0x60 else a
    (if h then a1 - 0x06 else a1, c)
  else
    let high := c || decide (a.toNat > 0x99)
    let low := h || decide (a.toNat % 16 > 0x09)
    let a1 := if high then a + 0x60 else a
    (if low then a1 + 0x06 else a1, high)

/-- A word result with its half-carry and carry. -/
structure WordResult where
  /-- the result word -/
  val : Word
  /-- the half-carry -/
  h : Bool
  /-- the carry -/
  c : Bool
  deriving DecidableEq, Repr

/-- `ADD HL,r16`: H is the carry out of bit 11, C the carry out of bit 15 (43_alu16.md R192). -/
def add16 (a b : Word) : WordResult :=
  let sum := a.toNat + b.toNat
  { val := BitVec.ofNat 16 sum
    h := decide (a.toNat % 4096 + b.toNat % 4096 > 0x0FFF)
    c := decide (sum > 0xFFFF) }

/-- `AddSpE8(sp, e)` (41_load16.md R144): the signed sum, and the carries of the unsigned addition of the
raw immediate byte to the low byte of SP. -/
def addSpE8 (sp : Word) (e : Byte) : WordResult :=
  { val := sp + sext16 e
    h := decide (sp.toNat % 16 + e.toNat % 16 > 0x0F)
    c := decide (sp.toNat % 256 + e.toNat > 0xFF) }

/-- The bit `b` as the byte 0 or 1. -/
def bitByte (b : Bool) : Byte := BitVec.ofNat 8 b.toNat

/-- The eight rotate and shift functions (44_rotate_shift_bit.md R204): result byte and carry-out. -/
def rotate (op : RotOp) (v : Byte) (cin : Bool) : Byte × Bool :=
  match op with
  | .rlc => ((v <<< 1) ||| (v >>> 7), v.getLsbD 7)
  | .rrc => ((v >>> 1) ||| (v <<< 7), v.getLsbD 0)
  | .rl => ((v <<< 1) ||| bitByte cin, v.getLsbD 7)
  | .rr => ((v >>> 1) ||| (bitByte cin <<< 7), v.getLsbD 0)
  | .sla => (v <<< 1, v.getLsbD 7)
  | .sra => ((v >>> 1) ||| (v &&& 0x80), v.getLsbD 0)
  | .swap => ((v <<< 4) ||| (v >>> 4), false)
  | .srl => (v >>> 1, v.getLsbD 0)

/-- The byte `1 << b` (44_rotate_shift_bit.md R223 to R226). -/
def bitMask (i : Idx3) : Byte := (1 : Byte) <<< i.num

end Sys2Proof.Machine
end

