-- ==== Sys2Proof/Machine/Operands.lean ====
section
/-! DEFINITION. The operand forms: registers, pairs, and the selectors `r8`, `r16`, `r16mem`, `r16stk`
(10_state.md R20, R21, R26 to R29). -/

namespace Sys2Proof.Machine

/-- The register a selector names (10_state.md R20). -/
def State.reg (s : State) : Reg → Byte
  | .b => s.b
  | .c => s.c
  | .d => s.d
  | .e => s.e
  | .h => s.h
  | .l => s.l
  | .a => s.a

/-- A write of the register a selector names (10_state.md R20). -/
def State.setReg (s : State) (r : Reg) (v : Byte) : State :=
  match r with
  | .b => { s with b := v }
  | .c => { s with c := v }
  | .d => { s with d := v }
  | .e => { s with e := v }
  | .h => { s with h := v }
  | .l => { s with l := v }
  | .a => { s with a := v }

/-- `AF = {A, F}`, F with its low nibble reading 0 (10_state.md R21, R23). -/
def State.af (s : State) : Word := cat s.a s.readF

/-- `BC = {B, C}` (10_state.md R21). -/
def State.bc (s : State) : Word := cat s.b s.c

/-- `DE = {D, E}` (10_state.md R21). -/
def State.de (s : State) : Word := cat s.d s.e

/-- `HL = {H, L}` (10_state.md R21). -/
def State.hl (s : State) : Word := cat s.h s.l

/-- `AF <- w`: A <- hi(w), F <- lo(w) & 0xF0 (10_state.md R21). -/
def State.setAF (s : State) (w : Word) : State := { s with a := hi w }.writeF (lo w)

/-- `BC <- w` (10_state.md R21). -/
def State.setBC (s : State) (w : Word) : State := { s with b := hi w, c := lo w }

/-- `DE <- w` (10_state.md R21). -/
def State.setDE (s : State) (w : Word) : State := { s with d := hi w, e := lo w }

/-- `HL <- w` (10_state.md R21). -/
def State.setHL (s : State) (w : Word) : State := { s with h := hi w, l := lo w }

/-- `r8[i]`: the register, or `MemRead(HL, 1)` for selector 6 (10_state.md R26). -/
def State.readR8 (s : State) (o : R8) (k : Byte → BusProg State) : BusProg State :=
  match o with
  | .reg r => k (s.reg r)
  | .atHL => .read s.hl k

/-- `r8[i] <- v`: the register, or `MemWrite(HL, 1, v)` for selector 6 (10_state.md R26). -/
def State.writeR8 (s : State) (o : R8) (v : Byte) (k : State → BusProg State) : BusProg State :=
  match o with
  | .reg r => k (s.setReg r v)
  | .atHL => .write s.hl v (k s)

/-- `r16[i]` (10_state.md R27). -/
def State.r16 (s : State) : R16 → Word
  | .bc => s.bc
  | .de => s.de
  | .hl => s.hl
  | .sp => s.sp

/-- `r16[i] <- v` (10_state.md R27). -/
def State.setR16 (s : State) (r : R16) (w : Word) : State :=
  match r with
  | .bc => s.setBC w
  | .de => s.setDE w
  | .hl => s.setHL w
  | .sp => { s with sp := w }

/-- `r16mem(i)`: the address, and HL after its post-increment or post-decrement (10_state.md R28). -/
def State.r16mem (s : State) : R16Mem → Word × State
  | .bc => (s.bc, s)
  | .de => (s.de, s)
  | .hlInc => (s.hl, s.setHL (s.hl + 1))
  | .hlDec => (s.hl, s.setHL (s.hl - 1))

/-- `r16stk[i]` (10_state.md R29). -/
def State.r16stk (s : State) : R16Stk → Word
  | .bc => s.bc
  | .de => s.de
  | .hl => s.hl
  | .af => s.af

/-- `r16stk[i] <- v`; a write to AF masks the low nibble (10_state.md R29). -/
def State.setR16stk (s : State) (r : R16Stk) (w : Word) : State :=
  match r with
  | .bc => s.setBC w
  | .de => s.setDE w
  | .hl => s.setHL w
  | .af => s.setAF w

end Sys2Proof.Machine
end

