-- ==== Sys2Proof/Machine/Alu16.lean ====
section
/-! DEFINITION. 16-bit arithmetic (43_alu16.md R190 to R193): the effect of each form, then one meaning
per instruction. -/

namespace Sys2Proof.Machine

/-- `INC r16` (43_alu16.md R190): no flag is written. -/
def incR16 (r : R16) (s : State) : BusProg State := (s.setR16 r (s.r16 r + 1)).finish 2

/-- `DEC r16` (43_alu16.md R191): no flag is written. -/
def decR16 (r : R16) (s : State) : BusProg State := (s.setR16 r (s.r16 r - 1)).finish 2

/-- `ADD HL,r16` (43_alu16.md R192): Z is unchanged. -/
def addHLR16 (r : R16) (s : State) : BusProg State :=
  let w := add16 s.hl (s.r16 r)
  ((s.setHL w.val).setFlags s.flagZ false w.h w.c).finish 2

/-- `ADD SP,e8` (43_alu16.md R193). -/
def addSPe8 (s : State) : BusProg State :=
  s.fetch8 fun e s =>
    let r := addSpE8 s.sp e
    ({ s with sp := r.val }.setFlags false false r.h r.c).finish 4

/-- `INC BC` (43_alu16.md R190). -/
def execInc_BC (s : State) : Result := .next (onFlat (incR16 .bc) s)

/-- `ADD HL,BC` (43_alu16.md R192). -/
def execAdd_HL_BC (s : State) : Result := .next (onFlat (addHLR16 .bc) s)

/-- `DEC BC` (43_alu16.md R191). -/
def execDec_BC (s : State) : Result := .next (onFlat (decR16 .bc) s)

/-- `INC DE` (43_alu16.md R190). -/
def execInc_DE (s : State) : Result := .next (onFlat (incR16 .de) s)

/-- `ADD HL,DE` (43_alu16.md R192). -/
def execAdd_HL_DE (s : State) : Result := .next (onFlat (addHLR16 .de) s)

/-- `DEC DE` (43_alu16.md R191). -/
def execDec_DE (s : State) : Result := .next (onFlat (decR16 .de) s)

/-- `INC HL` (43_alu16.md R190). -/
def execInc_HL (s : State) : Result := .next (onFlat (incR16 .hl) s)

/-- `ADD HL,HL` (43_alu16.md R192). -/
def execAdd_HL_HL (s : State) : Result := .next (onFlat (addHLR16 .hl) s)

/-- `DEC HL` (43_alu16.md R191). -/
def execDec_HL (s : State) : Result := .next (onFlat (decR16 .hl) s)

/-- `INC SP` (43_alu16.md R190). -/
def execInc_SP (s : State) : Result := .next (onFlat (incR16 .sp) s)

/-- `ADD HL,SP` (43_alu16.md R192). -/
def execAdd_HL_SP (s : State) : Result := .next (onFlat (addHLR16 .sp) s)

/-- `DEC SP` (43_alu16.md R191). -/
def execDec_SP (s : State) : Result := .next (onFlat (decR16 .sp) s)

/-- `ADD SP,e8` (43_alu16.md R193). -/
def execAdd_SP_e8 (s : State) : Result := .next (onFlat addSPe8 s)

end Sys2Proof.Machine
end

