-- ==== Sys2Proof/Machine/Alu8.lean ====
section
/-! DEFINITION. 8-bit arithmetic and logic (42_alu8.md R150 to R185): the effect of each form, then one
meaning per instruction. -/

namespace Sys2Proof.Machine

/-- `A <- A + b + cin` with its flags (42_alu8.md R157 to R162). -/
def State.addA (s : State) (b : Byte) (cin : Bool) : State :=
  let r := add8 s.a b cin
  { s with a := r.val }.setFlags (r.val == 0) false r.h r.c

/-- The flags of `A - b - cin`; A is not written (42_alu8.md R178 to R180). -/
def State.compareA (s : State) (b : Byte) (cin : Bool) : State :=
  let r := sub8 s.a b cin
  s.setFlags (r.val == 0) true r.h r.c

/-- `A <- A - b - cin` with its flags (42_alu8.md R163 to R168). -/
def State.subA (s : State) (b : Byte) (cin : Bool) : State :=
  let r := sub8 s.a b cin
  { s with a := r.val }.setFlags (r.val == 0) true r.h r.c

/-- `A <- r` with the flags of a logic operation: H is 1 for AND, 0 for XOR and OR (42_alu8.md R152). -/
def State.logicA (s : State) (r : Byte) (h : Bool) : State :=
  { s with a := r }.setFlags (r == 0) false h false

/-- One of the eight operations on A with operand `b` (30_encoding.md R86, 42_alu8.md R157 to R180). -/
def State.alu (s : State) (op : AluOp) (b : Byte) : State :=
  match op with
  | .add => s.addA b false
  | .adc => s.addA b s.flagC
  | .sub => s.subA b false
  | .sbc => s.subA b s.flagC
  | .and => s.logicA (s.a &&& b) true
  | .xor => s.logicA (s.a ^^^ b) false
  | .or => s.logicA (s.a ||| b) false
  | .cp => s.compareA b false

/-- `op A,r8` (42_alu8.md R157, R160, R163, R166, R169, R172, R175, R178). -/
def aluReg (op : AluOp) (r : Reg) (s : State) : BusProg State := (s.alu op (s.reg r)).finish 1

/-- `op A,[HL]` (42_alu8.md R158, R161, R164, R167, R170, R173, R176, R179). -/
def aluAtHL (op : AluOp) (s : State) : BusProg State :=
  .read s.hl fun b => (s.alu op b).finish 2

/-- `op A,n8` (42_alu8.md R159, R162, R165, R168, R171, R174, R177, R180). -/
def aluImm (op : AluOp) (s : State) : BusProg State :=
  s.fetch8 fun b s => (s.alu op b).finish 2

/-- INC of an `r8` operand in `n` cycles; C is not touched (42_alu8.md R153, R154). -/
def State.incOperand (s : State) (o : R8) (n : Nat) : BusProg State :=
  s.readR8 o fun v =>
    let (r, h) := inc8 v
    s.writeR8 o r fun s => (s.setFlags (r == 0) false h s.flagC).finish n

/-- DEC of an `r8` operand in `n` cycles; C is not touched (42_alu8.md R155, R156). -/
def State.decOperand (s : State) (o : R8) (n : Nat) : BusProg State :=
  s.readR8 o fun v =>
    let (r, h) := dec8 v
    s.writeR8 o r fun s => (s.setFlags (r == 0) true h s.flagC).finish n

/-- `INC r8` (42_alu8.md R153). -/
def incReg (r : Reg) (s : State) : BusProg State := s.incOperand (.reg r) 1

/-- `INC [HL]` (42_alu8.md R154). -/
def incAtHL (s : State) : BusProg State := s.incOperand .atHL 3

/-- `DEC r8` (42_alu8.md R155). -/
def decReg (r : Reg) (s : State) : BusProg State := s.decOperand (.reg r) 1

/-- `DEC [HL]` (42_alu8.md R156). -/
def decAtHL (s : State) : BusProg State := s.decOperand .atHL 3

/-- `DAA` (42_alu8.md R181): N is unchanged. -/
def daa (s : State) : BusProg State :=
  let (a, c) := daa8 s.a s.flagN s.flagH s.flagC
  ({ s with a := a }.setFlags (a == 0) s.flagN false c).finish 1

/-- `CPL` (42_alu8.md R182): Z and C are unchanged. -/
def cpl (s : State) : BusProg State :=
  ({ s with a := ~~~s.a }.setFlags s.flagZ true true s.flagC).finish 1

/-- `SCF` (42_alu8.md R183): Z is unchanged. -/
def scf (s : State) : BusProg State := (s.setFlags s.flagZ false false true).finish 1

/-- `CCF` (42_alu8.md R184): Z is unchanged. -/
def ccf (s : State) : BusProg State := (s.setFlags s.flagZ false false (!s.flagC)).finish 1

/-- `INC B` (42_alu8.md R153). -/
def execInc_B (s : State) : Result := .next (onFlat (incReg .b) s)

/-- `DEC B` (42_alu8.md R155). -/
def execDec_B (s : State) : Result := .next (onFlat (decReg .b) s)

/-- `INC C` (42_alu8.md R153). -/
def execInc_C (s : State) : Result := .next (onFlat (incReg .c) s)

/-- `DEC C` (42_alu8.md R155). -/
def execDec_C (s : State) : Result := .next (onFlat (decReg .c) s)

/-- `INC D` (42_alu8.md R153). -/
def execInc_D (s : State) : Result := .next (onFlat (incReg .d) s)

/-- `DEC D` (42_alu8.md R155). -/
def execDec_D (s : State) : Result := .next (onFlat (decReg .d) s)

/-- `INC E` (42_alu8.md R153). -/
def execInc_E (s : State) : Result := .next (onFlat (incReg .e) s)

/-- `DEC E` (42_alu8.md R155). -/
def execDec_E (s : State) : Result := .next (onFlat (decReg .e) s)

/-- `INC H` (42_alu8.md R153). -/
def execInc_H (s : State) : Result := .next (onFlat (incReg .h) s)

/-- `DEC H` (42_alu8.md R155). -/
def execDec_H (s : State) : Result := .next (onFlat (decReg .h) s)

/-- `DAA` (42_alu8.md R181). -/
def execDaa (s : State) : Result := .next (onFlat daa s)

/-- `INC L` (42_alu8.md R153). -/
def execInc_L (s : State) : Result := .next (onFlat (incReg .l) s)

/-- `DEC L` (42_alu8.md R155). -/
def execDec_L (s : State) : Result := .next (onFlat (decReg .l) s)

/-- `CPL` (42_alu8.md R182). -/
def execCpl (s : State) : Result := .next (onFlat cpl s)

/-- `INC [HL]` (42_alu8.md R154). -/
def execInc_atHL (s : State) : Result := .next (onFlat incAtHL s)

/-- `DEC [HL]` (42_alu8.md R156). -/
def execDec_atHL (s : State) : Result := .next (onFlat decAtHL s)

/-- `SCF` (42_alu8.md R183). -/
def execScf (s : State) : Result := .next (onFlat scf s)

/-- `INC A` (42_alu8.md R153). -/
def execInc_A (s : State) : Result := .next (onFlat (incReg .a) s)

/-- `DEC A` (42_alu8.md R155). -/
def execDec_A (s : State) : Result := .next (onFlat (decReg .a) s)

/-- `CCF` (42_alu8.md R184). -/
def execCcf (s : State) : Result := .next (onFlat ccf s)

/-- `ADD A,B` (42_alu8.md R157). -/
def execAdd_A_B (s : State) : Result := .next (onFlat (aluReg .add .b) s)

/-- `ADD A,C` (42_alu8.md R157). -/
def execAdd_A_C (s : State) : Result := .next (onFlat (aluReg .add .c) s)

/-- `ADD A,D` (42_alu8.md R157). -/
def execAdd_A_D (s : State) : Result := .next (onFlat (aluReg .add .d) s)

/-- `ADD A,E` (42_alu8.md R157). -/
def execAdd_A_E (s : State) : Result := .next (onFlat (aluReg .add .e) s)

/-- `ADD A,H` (42_alu8.md R157). -/
def execAdd_A_H (s : State) : Result := .next (onFlat (aluReg .add .h) s)

/-- `ADD A,L` (42_alu8.md R157). -/
def execAdd_A_L (s : State) : Result := .next (onFlat (aluReg .add .l) s)

/-- `ADD A,[HL]` (42_alu8.md R158). -/
def execAdd_A_atHL (s : State) : Result := .next (onFlat (aluAtHL .add) s)

/-- `ADD A,A` (42_alu8.md R157). -/
def execAdd_A_A (s : State) : Result := .next (onFlat (aluReg .add .a) s)

/-- `ADC A,B` (42_alu8.md R160). -/
def execAdc_A_B (s : State) : Result := .next (onFlat (aluReg .adc .b) s)

/-- `ADC A,C` (42_alu8.md R160). -/
def execAdc_A_C (s : State) : Result := .next (onFlat (aluReg .adc .c) s)

/-- `ADC A,D` (42_alu8.md R160). -/
def execAdc_A_D (s : State) : Result := .next (onFlat (aluReg .adc .d) s)

/-- `ADC A,E` (42_alu8.md R160). -/
def execAdc_A_E (s : State) : Result := .next (onFlat (aluReg .adc .e) s)

/-- `ADC A,H` (42_alu8.md R160). -/
def execAdc_A_H (s : State) : Result := .next (onFlat (aluReg .adc .h) s)

/-- `ADC A,L` (42_alu8.md R160). -/
def execAdc_A_L (s : State) : Result := .next (onFlat (aluReg .adc .l) s)

/-- `ADC A,[HL]` (42_alu8.md R161). -/
def execAdc_A_atHL (s : State) : Result := .next (onFlat (aluAtHL .adc) s)

/-- `ADC A,A` (42_alu8.md R160). -/
def execAdc_A_A (s : State) : Result := .next (onFlat (aluReg .adc .a) s)

/-- `SUB A,B` (42_alu8.md R163). -/
def execSub_A_B (s : State) : Result := .next (onFlat (aluReg .sub .b) s)

/-- `SUB A,C` (42_alu8.md R163). -/
def execSub_A_C (s : State) : Result := .next (onFlat (aluReg .sub .c) s)

/-- `SUB A,D` (42_alu8.md R163). -/
def execSub_A_D (s : State) : Result := .next (onFlat (aluReg .sub .d) s)

/-- `SUB A,E` (42_alu8.md R163). -/
def execSub_A_E (s : State) : Result := .next (onFlat (aluReg .sub .e) s)

/-- `SUB A,H` (42_alu8.md R163). -/
def execSub_A_H (s : State) : Result := .next (onFlat (aluReg .sub .h) s)

/-- `SUB A,L` (42_alu8.md R163). -/
def execSub_A_L (s : State) : Result := .next (onFlat (aluReg .sub .l) s)

/-- `SUB A,[HL]` (42_alu8.md R164). -/
def execSub_A_atHL (s : State) : Result := .next (onFlat (aluAtHL .sub) s)

/-- `SUB A,A` (42_alu8.md R163). -/
def execSub_A_A (s : State) : Result := .next (onFlat (aluReg .sub .a) s)

/-- `SBC A,B` (42_alu8.md R166). -/
def execSbc_A_B (s : State) : Result := .next (onFlat (aluReg .sbc .b) s)

/-- `SBC A,C` (42_alu8.md R166). -/
def execSbc_A_C (s : State) : Result := .next (onFlat (aluReg .sbc .c) s)

/-- `SBC A,D` (42_alu8.md R166). -/
def execSbc_A_D (s : State) : Result := .next (onFlat (aluReg .sbc .d) s)

/-- `SBC A,E` (42_alu8.md R166). -/
def execSbc_A_E (s : State) : Result := .next (onFlat (aluReg .sbc .e) s)

/-- `SBC A,H` (42_alu8.md R166). -/
def execSbc_A_H (s : State) : Result := .next (onFlat (aluReg .sbc .h) s)

/-- `SBC A,L` (42_alu8.md R166). -/
def execSbc_A_L (s : State) : Result := .next (onFlat (aluReg .sbc .l) s)

/-- `SBC A,[HL]` (42_alu8.md R167). -/
def execSbc_A_atHL (s : State) : Result := .next (onFlat (aluAtHL .sbc) s)

/-- `SBC A,A` (42_alu8.md R166). -/
def execSbc_A_A (s : State) : Result := .next (onFlat (aluReg .sbc .a) s)

/-- `AND A,B` (42_alu8.md R169). -/
def execAnd_A_B (s : State) : Result := .next (onFlat (aluReg .and .b) s)

/-- `AND A,C` (42_alu8.md R169). -/
def execAnd_A_C (s : State) : Result := .next (onFlat (aluReg .and .c) s)

/-- `AND A,D` (42_alu8.md R169). -/
def execAnd_A_D (s : State) : Result := .next (onFlat (aluReg .and .d) s)

/-- `AND A,E` (42_alu8.md R169). -/
def execAnd_A_E (s : State) : Result := .next (onFlat (aluReg .and .e) s)

/-- `AND A,H` (42_alu8.md R169). -/
def execAnd_A_H (s : State) : Result := .next (onFlat (aluReg .and .h) s)

/-- `AND A,L` (42_alu8.md R169). -/
def execAnd_A_L (s : State) : Result := .next (onFlat (aluReg .and .l) s)

/-- `AND A,[HL]` (42_alu8.md R170). -/
def execAnd_A_atHL (s : State) : Result := .next (onFlat (aluAtHL .and) s)

/-- `AND A,A` (42_alu8.md R169). -/
def execAnd_A_A (s : State) : Result := .next (onFlat (aluReg .and .a) s)

/-- `XOR A,B` (42_alu8.md R172). -/
def execXor_A_B (s : State) : Result := .next (onFlat (aluReg .xor .b) s)

/-- `XOR A,C` (42_alu8.md R172). -/
def execXor_A_C (s : State) : Result := .next (onFlat (aluReg .xor .c) s)

/-- `XOR A,D` (42_alu8.md R172). -/
def execXor_A_D (s : State) : Result := .next (onFlat (aluReg .xor .d) s)

/-- `XOR A,E` (42_alu8.md R172). -/
def execXor_A_E (s : State) : Result := .next (onFlat (aluReg .xor .e) s)

/-- `XOR A,H` (42_alu8.md R172). -/
def execXor_A_H (s : State) : Result := .next (onFlat (aluReg .xor .h) s)

/-- `XOR A,L` (42_alu8.md R172). -/
def execXor_A_L (s : State) : Result := .next (onFlat (aluReg .xor .l) s)

/-- `XOR A,[HL]` (42_alu8.md R173). -/
def execXor_A_atHL (s : State) : Result := .next (onFlat (aluAtHL .xor) s)

/-- `XOR A,A` (42_alu8.md R172). -/
def execXor_A_A (s : State) : Result := .next (onFlat (aluReg .xor .a) s)

/-- `OR A,B` (42_alu8.md R175). -/
def execOr_A_B (s : State) : Result := .next (onFlat (aluReg .or .b) s)

/-- `OR A,C` (42_alu8.md R175). -/
def execOr_A_C (s : State) : Result := .next (onFlat (aluReg .or .c) s)

/-- `OR A,D` (42_alu8.md R175). -/
def execOr_A_D (s : State) : Result := .next (onFlat (aluReg .or .d) s)

/-- `OR A,E` (42_alu8.md R175). -/
def execOr_A_E (s : State) : Result := .next (onFlat (aluReg .or .e) s)

/-- `OR A,H` (42_alu8.md R175). -/
def execOr_A_H (s : State) : Result := .next (onFlat (aluReg .or .h) s)

/-- `OR A,L` (42_alu8.md R175). -/
def execOr_A_L (s : State) : Result := .next (onFlat (aluReg .or .l) s)

/-- `OR A,[HL]` (42_alu8.md R176). -/
def execOr_A_atHL (s : State) : Result := .next (onFlat (aluAtHL .or) s)

/-- `OR A,A` (42_alu8.md R175). -/
def execOr_A_A (s : State) : Result := .next (onFlat (aluReg .or .a) s)

/-- `CP A,B` (42_alu8.md R178). -/
def execCp_A_B (s : State) : Result := .next (onFlat (aluReg .cp .b) s)

/-- `CP A,C` (42_alu8.md R178). -/
def execCp_A_C (s : State) : Result := .next (onFlat (aluReg .cp .c) s)

/-- `CP A,D` (42_alu8.md R178). -/
def execCp_A_D (s : State) : Result := .next (onFlat (aluReg .cp .d) s)

/-- `CP A,E` (42_alu8.md R178). -/
def execCp_A_E (s : State) : Result := .next (onFlat (aluReg .cp .e) s)

/-- `CP A,H` (42_alu8.md R178). -/
def execCp_A_H (s : State) : Result := .next (onFlat (aluReg .cp .h) s)

/-- `CP A,L` (42_alu8.md R178). -/
def execCp_A_L (s : State) : Result := .next (onFlat (aluReg .cp .l) s)

/-- `CP A,[HL]` (42_alu8.md R179). -/
def execCp_A_atHL (s : State) : Result := .next (onFlat (aluAtHL .cp) s)

/-- `CP A,A` (42_alu8.md R178). -/
def execCp_A_A (s : State) : Result := .next (onFlat (aluReg .cp .a) s)

/-- `ADD A,n8` (42_alu8.md R159). -/
def execAdd_A_n8 (s : State) : Result := .next (onFlat (aluImm .add) s)

/-- `ADC A,n8` (42_alu8.md R162). -/
def execAdc_A_n8 (s : State) : Result := .next (onFlat (aluImm .adc) s)

/-- `SUB A,n8` (42_alu8.md R165). -/
def execSub_A_n8 (s : State) : Result := .next (onFlat (aluImm .sub) s)

/-- `SBC A,n8` (42_alu8.md R168). -/
def execSbc_A_n8 (s : State) : Result := .next (onFlat (aluImm .sbc) s)

/-- `AND A,n8` (42_alu8.md R171). -/
def execAnd_A_n8 (s : State) : Result := .next (onFlat (aluImm .and) s)

/-- `XOR A,n8` (42_alu8.md R174). -/
def execXor_A_n8 (s : State) : Result := .next (onFlat (aluImm .xor) s)

/-- `OR A,n8` (42_alu8.md R177). -/
def execOr_A_n8 (s : State) : Result := .next (onFlat (aluImm .or) s)

/-- `CP A,n8` (42_alu8.md R180). -/
def execCp_A_n8 (s : State) : Result := .next (onFlat (aluImm .cp) s)

end Sys2Proof.Machine
end

