-- ==== Sys2Proof/Machine/Bit.lean ====
section
/-! DEFINITION. Bit test, reset and set (44_rotate_shift_bit.md R221 to R226): the effect of each form,
then one meaning per instruction. -/

namespace Sys2Proof.Machine

/-- BIT of an `r8` operand in `n` cycles (44_rotate_shift_bit.md R221, R222): Z is the complement of the bit, C is
unchanged, nothing but F is written. -/
def State.bitOperand (s : State) (i : Idx3) (o : R8) (n : Nat) : BusProg State :=
  s.readR8 o fun v => (s.setFlags (!v.getLsbD i.num) false true s.flagC).finish n

/-- RES of an `r8` operand in `n` cycles (44_rotate_shift_bit.md R223, R224): no flag is written. -/
def State.resOperand (s : State) (i : Idx3) (o : R8) (n : Nat) : BusProg State :=
  s.readR8 o fun v => s.writeR8 o (v &&& ~~~(bitMask i)) fun s => s.finish n

/-- SET of an `r8` operand in `n` cycles (44_rotate_shift_bit.md R225, R226): no flag is written. -/
def State.setOperand (s : State) (i : Idx3) (o : R8) (n : Nat) : BusProg State :=
  s.readR8 o fun v => s.writeR8 o (v ||| bitMask i) fun s => s.finish n

/-- `BIT b3,r8` (44_rotate_shift_bit.md R221). -/
def bitReg (i : Idx3) (r : Reg) (s : State) : BusProg State := s.bitOperand i (.reg r) 2

/-- `BIT b3,[HL]` (44_rotate_shift_bit.md R222): one read, no write. -/
def bitAtHL (i : Idx3) (s : State) : BusProg State := s.bitOperand i .atHL 3

/-- `RES b3,r8` (44_rotate_shift_bit.md R223). -/
def resReg (i : Idx3) (r : Reg) (s : State) : BusProg State := s.resOperand i (.reg r) 2

/-- `RES b3,[HL]` (44_rotate_shift_bit.md R224). -/
def resAtHL (i : Idx3) (s : State) : BusProg State := s.resOperand i .atHL 4

/-- `SET b3,r8` (44_rotate_shift_bit.md R225). -/
def setBitReg (i : Idx3) (r : Reg) (s : State) : BusProg State := s.setOperand i (.reg r) 2

/-- `SET b3,[HL]` (44_rotate_shift_bit.md R226). -/
def setBitAtHL (i : Idx3) (s : State) : BusProg State := s.setOperand i .atHL 4

/-- `BIT 0,B` (44_rotate_shift_bit.md R221). -/
def execBit_0_B (s : State) : Result := .next (onFlat (bitReg .i0 .b) s)

/-- `BIT 0,C` (44_rotate_shift_bit.md R221). -/
def execBit_0_C (s : State) : Result := .next (onFlat (bitReg .i0 .c) s)

/-- `BIT 0,D` (44_rotate_shift_bit.md R221). -/
def execBit_0_D (s : State) : Result := .next (onFlat (bitReg .i0 .d) s)

/-- `BIT 0,E` (44_rotate_shift_bit.md R221). -/
def execBit_0_E (s : State) : Result := .next (onFlat (bitReg .i0 .e) s)

/-- `BIT 0,H` (44_rotate_shift_bit.md R221). -/
def execBit_0_H (s : State) : Result := .next (onFlat (bitReg .i0 .h) s)

/-- `BIT 0,L` (44_rotate_shift_bit.md R221). -/
def execBit_0_L (s : State) : Result := .next (onFlat (bitReg .i0 .l) s)

/-- `BIT 0,[HL]` (44_rotate_shift_bit.md R222). -/
def execBit_0_atHL (s : State) : Result := .next (onFlat (bitAtHL .i0) s)

/-- `BIT 0,A` (44_rotate_shift_bit.md R221). -/
def execBit_0_A (s : State) : Result := .next (onFlat (bitReg .i0 .a) s)

/-- `BIT 1,B` (44_rotate_shift_bit.md R221). -/
def execBit_1_B (s : State) : Result := .next (onFlat (bitReg .i1 .b) s)

/-- `BIT 1,C` (44_rotate_shift_bit.md R221). -/
def execBit_1_C (s : State) : Result := .next (onFlat (bitReg .i1 .c) s)

/-- `BIT 1,D` (44_rotate_shift_bit.md R221). -/
def execBit_1_D (s : State) : Result := .next (onFlat (bitReg .i1 .d) s)

/-- `BIT 1,E` (44_rotate_shift_bit.md R221). -/
def execBit_1_E (s : State) : Result := .next (onFlat (bitReg .i1 .e) s)

/-- `BIT 1,H` (44_rotate_shift_bit.md R221). -/
def execBit_1_H (s : State) : Result := .next (onFlat (bitReg .i1 .h) s)

/-- `BIT 1,L` (44_rotate_shift_bit.md R221). -/
def execBit_1_L (s : State) : Result := .next (onFlat (bitReg .i1 .l) s)

/-- `BIT 1,[HL]` (44_rotate_shift_bit.md R222). -/
def execBit_1_atHL (s : State) : Result := .next (onFlat (bitAtHL .i1) s)

/-- `BIT 1,A` (44_rotate_shift_bit.md R221). -/
def execBit_1_A (s : State) : Result := .next (onFlat (bitReg .i1 .a) s)

/-- `BIT 2,B` (44_rotate_shift_bit.md R221). -/
def execBit_2_B (s : State) : Result := .next (onFlat (bitReg .i2 .b) s)

/-- `BIT 2,C` (44_rotate_shift_bit.md R221). -/
def execBit_2_C (s : State) : Result := .next (onFlat (bitReg .i2 .c) s)

/-- `BIT 2,D` (44_rotate_shift_bit.md R221). -/
def execBit_2_D (s : State) : Result := .next (onFlat (bitReg .i2 .d) s)

/-- `BIT 2,E` (44_rotate_shift_bit.md R221). -/
def execBit_2_E (s : State) : Result := .next (onFlat (bitReg .i2 .e) s)

/-- `BIT 2,H` (44_rotate_shift_bit.md R221). -/
def execBit_2_H (s : State) : Result := .next (onFlat (bitReg .i2 .h) s)

/-- `BIT 2,L` (44_rotate_shift_bit.md R221). -/
def execBit_2_L (s : State) : Result := .next (onFlat (bitReg .i2 .l) s)

/-- `BIT 2,[HL]` (44_rotate_shift_bit.md R222). -/
def execBit_2_atHL (s : State) : Result := .next (onFlat (bitAtHL .i2) s)

/-- `BIT 2,A` (44_rotate_shift_bit.md R221). -/
def execBit_2_A (s : State) : Result := .next (onFlat (bitReg .i2 .a) s)

/-- `BIT 3,B` (44_rotate_shift_bit.md R221). -/
def execBit_3_B (s : State) : Result := .next (onFlat (bitReg .i3 .b) s)

/-- `BIT 3,C` (44_rotate_shift_bit.md R221). -/
def execBit_3_C (s : State) : Result := .next (onFlat (bitReg .i3 .c) s)

/-- `BIT 3,D` (44_rotate_shift_bit.md R221). -/
def execBit_3_D (s : State) : Result := .next (onFlat (bitReg .i3 .d) s)

/-- `BIT 3,E` (44_rotate_shift_bit.md R221). -/
def execBit_3_E (s : State) : Result := .next (onFlat (bitReg .i3 .e) s)

/-- `BIT 3,H` (44_rotate_shift_bit.md R221). -/
def execBit_3_H (s : State) : Result := .next (onFlat (bitReg .i3 .h) s)

/-- `BIT 3,L` (44_rotate_shift_bit.md R221). -/
def execBit_3_L (s : State) : Result := .next (onFlat (bitReg .i3 .l) s)

/-- `BIT 3,[HL]` (44_rotate_shift_bit.md R222). -/
def execBit_3_atHL (s : State) : Result := .next (onFlat (bitAtHL .i3) s)

/-- `BIT 3,A` (44_rotate_shift_bit.md R221). -/
def execBit_3_A (s : State) : Result := .next (onFlat (bitReg .i3 .a) s)

/-- `BIT 4,B` (44_rotate_shift_bit.md R221). -/
def execBit_4_B (s : State) : Result := .next (onFlat (bitReg .i4 .b) s)

/-- `BIT 4,C` (44_rotate_shift_bit.md R221). -/
def execBit_4_C (s : State) : Result := .next (onFlat (bitReg .i4 .c) s)

/-- `BIT 4,D` (44_rotate_shift_bit.md R221). -/
def execBit_4_D (s : State) : Result := .next (onFlat (bitReg .i4 .d) s)

/-- `BIT 4,E` (44_rotate_shift_bit.md R221). -/
def execBit_4_E (s : State) : Result := .next (onFlat (bitReg .i4 .e) s)

/-- `BIT 4,H` (44_rotate_shift_bit.md R221). -/
def execBit_4_H (s : State) : Result := .next (onFlat (bitReg .i4 .h) s)

/-- `BIT 4,L` (44_rotate_shift_bit.md R221). -/
def execBit_4_L (s : State) : Result := .next (onFlat (bitReg .i4 .l) s)

/-- `BIT 4,[HL]` (44_rotate_shift_bit.md R222). -/
def execBit_4_atHL (s : State) : Result := .next (onFlat (bitAtHL .i4) s)

/-- `BIT 4,A` (44_rotate_shift_bit.md R221). -/
def execBit_4_A (s : State) : Result := .next (onFlat (bitReg .i4 .a) s)

/-- `BIT 5,B` (44_rotate_shift_bit.md R221). -/
def execBit_5_B (s : State) : Result := .next (onFlat (bitReg .i5 .b) s)

/-- `BIT 5,C` (44_rotate_shift_bit.md R221). -/
def execBit_5_C (s : State) : Result := .next (onFlat (bitReg .i5 .c) s)

/-- `BIT 5,D` (44_rotate_shift_bit.md R221). -/
def execBit_5_D (s : State) : Result := .next (onFlat (bitReg .i5 .d) s)

/-- `BIT 5,E` (44_rotate_shift_bit.md R221). -/
def execBit_5_E (s : State) : Result := .next (onFlat (bitReg .i5 .e) s)

/-- `BIT 5,H` (44_rotate_shift_bit.md R221). -/
def execBit_5_H (s : State) : Result := .next (onFlat (bitReg .i5 .h) s)

/-- `BIT 5,L` (44_rotate_shift_bit.md R221). -/
def execBit_5_L (s : State) : Result := .next (onFlat (bitReg .i5 .l) s)

/-- `BIT 5,[HL]` (44_rotate_shift_bit.md R222). -/
def execBit_5_atHL (s : State) : Result := .next (onFlat (bitAtHL .i5) s)

/-- `BIT 5,A` (44_rotate_shift_bit.md R221). -/
def execBit_5_A (s : State) : Result := .next (onFlat (bitReg .i5 .a) s)

/-- `BIT 6,B` (44_rotate_shift_bit.md R221). -/
def execBit_6_B (s : State) : Result := .next (onFlat (bitReg .i6 .b) s)

/-- `BIT 6,C` (44_rotate_shift_bit.md R221). -/
def execBit_6_C (s : State) : Result := .next (onFlat (bitReg .i6 .c) s)

/-- `BIT 6,D` (44_rotate_shift_bit.md R221). -/
def execBit_6_D (s : State) : Result := .next (onFlat (bitReg .i6 .d) s)

/-- `BIT 6,E` (44_rotate_shift_bit.md R221). -/
def execBit_6_E (s : State) : Result := .next (onFlat (bitReg .i6 .e) s)

/-- `BIT 6,H` (44_rotate_shift_bit.md R221). -/
def execBit_6_H (s : State) : Result := .next (onFlat (bitReg .i6 .h) s)

/-- `BIT 6,L` (44_rotate_shift_bit.md R221). -/
def execBit_6_L (s : State) : Result := .next (onFlat (bitReg .i6 .l) s)

/-- `BIT 6,[HL]` (44_rotate_shift_bit.md R222). -/
def execBit_6_atHL (s : State) : Result := .next (onFlat (bitAtHL .i6) s)

/-- `BIT 6,A` (44_rotate_shift_bit.md R221). -/
def execBit_6_A (s : State) : Result := .next (onFlat (bitReg .i6 .a) s)

/-- `BIT 7,B` (44_rotate_shift_bit.md R221). -/
def execBit_7_B (s : State) : Result := .next (onFlat (bitReg .i7 .b) s)

/-- `BIT 7,C` (44_rotate_shift_bit.md R221). -/
def execBit_7_C (s : State) : Result := .next (onFlat (bitReg .i7 .c) s)

/-- `BIT 7,D` (44_rotate_shift_bit.md R221). -/
def execBit_7_D (s : State) : Result := .next (onFlat (bitReg .i7 .d) s)

/-- `BIT 7,E` (44_rotate_shift_bit.md R221). -/
def execBit_7_E (s : State) : Result := .next (onFlat (bitReg .i7 .e) s)

/-- `BIT 7,H` (44_rotate_shift_bit.md R221). -/
def execBit_7_H (s : State) : Result := .next (onFlat (bitReg .i7 .h) s)

/-- `BIT 7,L` (44_rotate_shift_bit.md R221). -/
def execBit_7_L (s : State) : Result := .next (onFlat (bitReg .i7 .l) s)

/-- `BIT 7,[HL]` (44_rotate_shift_bit.md R222). -/
def execBit_7_atHL (s : State) : Result := .next (onFlat (bitAtHL .i7) s)

/-- `BIT 7,A` (44_rotate_shift_bit.md R221). -/
def execBit_7_A (s : State) : Result := .next (onFlat (bitReg .i7 .a) s)

/-- `RES 0,B` (44_rotate_shift_bit.md R223). -/
def execRes_0_B (s : State) : Result := .next (onFlat (resReg .i0 .b) s)

/-- `RES 0,C` (44_rotate_shift_bit.md R223). -/
def execRes_0_C (s : State) : Result := .next (onFlat (resReg .i0 .c) s)

/-- `RES 0,D` (44_rotate_shift_bit.md R223). -/
def execRes_0_D (s : State) : Result := .next (onFlat (resReg .i0 .d) s)

/-- `RES 0,E` (44_rotate_shift_bit.md R223). -/
def execRes_0_E (s : State) : Result := .next (onFlat (resReg .i0 .e) s)

/-- `RES 0,H` (44_rotate_shift_bit.md R223). -/
def execRes_0_H (s : State) : Result := .next (onFlat (resReg .i0 .h) s)

/-- `RES 0,L` (44_rotate_shift_bit.md R223). -/
def execRes_0_L (s : State) : Result := .next (onFlat (resReg .i0 .l) s)

/-- `RES 0,[HL]` (44_rotate_shift_bit.md R224). -/
def execRes_0_atHL (s : State) : Result := .next (onFlat (resAtHL .i0) s)

/-- `RES 0,A` (44_rotate_shift_bit.md R223). -/
def execRes_0_A (s : State) : Result := .next (onFlat (resReg .i0 .a) s)

/-- `RES 1,B` (44_rotate_shift_bit.md R223). -/
def execRes_1_B (s : State) : Result := .next (onFlat (resReg .i1 .b) s)

/-- `RES 1,C` (44_rotate_shift_bit.md R223). -/
def execRes_1_C (s : State) : Result := .next (onFlat (resReg .i1 .c) s)

/-- `RES 1,D` (44_rotate_shift_bit.md R223). -/
def execRes_1_D (s : State) : Result := .next (onFlat (resReg .i1 .d) s)

/-- `RES 1,E` (44_rotate_shift_bit.md R223). -/
def execRes_1_E (s : State) : Result := .next (onFlat (resReg .i1 .e) s)

/-- `RES 1,H` (44_rotate_shift_bit.md R223). -/
def execRes_1_H (s : State) : Result := .next (onFlat (resReg .i1 .h) s)

/-- `RES 1,L` (44_rotate_shift_bit.md R223). -/
def execRes_1_L (s : State) : Result := .next (onFlat (resReg .i1 .l) s)

/-- `RES 1,[HL]` (44_rotate_shift_bit.md R224). -/
def execRes_1_atHL (s : State) : Result := .next (onFlat (resAtHL .i1) s)

/-- `RES 1,A` (44_rotate_shift_bit.md R223). -/
def execRes_1_A (s : State) : Result := .next (onFlat (resReg .i1 .a) s)

/-- `RES 2,B` (44_rotate_shift_bit.md R223). -/
def execRes_2_B (s : State) : Result := .next (onFlat (resReg .i2 .b) s)

/-- `RES 2,C` (44_rotate_shift_bit.md R223). -/
def execRes_2_C (s : State) : Result := .next (onFlat (resReg .i2 .c) s)

/-- `RES 2,D` (44_rotate_shift_bit.md R223). -/
def execRes_2_D (s : State) : Result := .next (onFlat (resReg .i2 .d) s)

/-- `RES 2,E` (44_rotate_shift_bit.md R223). -/
def execRes_2_E (s : State) : Result := .next (onFlat (resReg .i2 .e) s)

/-- `RES 2,H` (44_rotate_shift_bit.md R223). -/
def execRes_2_H (s : State) : Result := .next (onFlat (resReg .i2 .h) s)

/-- `RES 2,L` (44_rotate_shift_bit.md R223). -/
def execRes_2_L (s : State) : Result := .next (onFlat (resReg .i2 .l) s)

/-- `RES 2,[HL]` (44_rotate_shift_bit.md R224). -/
def execRes_2_atHL (s : State) : Result := .next (onFlat (resAtHL .i2) s)

/-- `RES 2,A` (44_rotate_shift_bit.md R223). -/
def execRes_2_A (s : State) : Result := .next (onFlat (resReg .i2 .a) s)

/-- `RES 3,B` (44_rotate_shift_bit.md R223). -/
def execRes_3_B (s : State) : Result := .next (onFlat (resReg .i3 .b) s)

/-- `RES 3,C` (44_rotate_shift_bit.md R223). -/
def execRes_3_C (s : State) : Result := .next (onFlat (resReg .i3 .c) s)

/-- `RES 3,D` (44_rotate_shift_bit.md R223). -/
def execRes_3_D (s : State) : Result := .next (onFlat (resReg .i3 .d) s)

/-- `RES 3,E` (44_rotate_shift_bit.md R223). -/
def execRes_3_E (s : State) : Result := .next (onFlat (resReg .i3 .e) s)

/-- `RES 3,H` (44_rotate_shift_bit.md R223). -/
def execRes_3_H (s : State) : Result := .next (onFlat (resReg .i3 .h) s)

/-- `RES 3,L` (44_rotate_shift_bit.md R223). -/
def execRes_3_L (s : State) : Result := .next (onFlat (resReg .i3 .l) s)

/-- `RES 3,[HL]` (44_rotate_shift_bit.md R224). -/
def execRes_3_atHL (s : State) : Result := .next (onFlat (resAtHL .i3) s)

/-- `RES 3,A` (44_rotate_shift_bit.md R223). -/
def execRes_3_A (s : State) : Result := .next (onFlat (resReg .i3 .a) s)

/-- `RES 4,B` (44_rotate_shift_bit.md R223). -/
def execRes_4_B (s : State) : Result := .next (onFlat (resReg .i4 .b) s)

/-- `RES 4,C` (44_rotate_shift_bit.md R223). -/
def execRes_4_C (s : State) : Result := .next (onFlat (resReg .i4 .c) s)

/-- `RES 4,D` (44_rotate_shift_bit.md R223). -/
def execRes_4_D (s : State) : Result := .next (onFlat (resReg .i4 .d) s)

/-- `RES 4,E` (44_rotate_shift_bit.md R223). -/
def execRes_4_E (s : State) : Result := .next (onFlat (resReg .i4 .e) s)

/-- `RES 4,H` (44_rotate_shift_bit.md R223). -/
def execRes_4_H (s : State) : Result := .next (onFlat (resReg .i4 .h) s)

/-- `RES 4,L` (44_rotate_shift_bit.md R223). -/
def execRes_4_L (s : State) : Result := .next (onFlat (resReg .i4 .l) s)

/-- `RES 4,[HL]` (44_rotate_shift_bit.md R224). -/
def execRes_4_atHL (s : State) : Result := .next (onFlat (resAtHL .i4) s)

/-- `RES 4,A` (44_rotate_shift_bit.md R223). -/
def execRes_4_A (s : State) : Result := .next (onFlat (resReg .i4 .a) s)

/-- `RES 5,B` (44_rotate_shift_bit.md R223). -/
def execRes_5_B (s : State) : Result := .next (onFlat (resReg .i5 .b) s)

/-- `RES 5,C` (44_rotate_shift_bit.md R223). -/
def execRes_5_C (s : State) : Result := .next (onFlat (resReg .i5 .c) s)

/-- `RES 5,D` (44_rotate_shift_bit.md R223). -/
def execRes_5_D (s : State) : Result := .next (onFlat (resReg .i5 .d) s)

/-- `RES 5,E` (44_rotate_shift_bit.md R223). -/
def execRes_5_E (s : State) : Result := .next (onFlat (resReg .i5 .e) s)

/-- `RES 5,H` (44_rotate_shift_bit.md R223). -/
def execRes_5_H (s : State) : Result := .next (onFlat (resReg .i5 .h) s)

/-- `RES 5,L` (44_rotate_shift_bit.md R223). -/
def execRes_5_L (s : State) : Result := .next (onFlat (resReg .i5 .l) s)

/-- `RES 5,[HL]` (44_rotate_shift_bit.md R224). -/
def execRes_5_atHL (s : State) : Result := .next (onFlat (resAtHL .i5) s)

/-- `RES 5,A` (44_rotate_shift_bit.md R223). -/
def execRes_5_A (s : State) : Result := .next (onFlat (resReg .i5 .a) s)

/-- `RES 6,B` (44_rotate_shift_bit.md R223). -/
def execRes_6_B (s : State) : Result := .next (onFlat (resReg .i6 .b) s)

/-- `RES 6,C` (44_rotate_shift_bit.md R223). -/
def execRes_6_C (s : State) : Result := .next (onFlat (resReg .i6 .c) s)

/-- `RES 6,D` (44_rotate_shift_bit.md R223). -/
def execRes_6_D (s : State) : Result := .next (onFlat (resReg .i6 .d) s)

/-- `RES 6,E` (44_rotate_shift_bit.md R223). -/
def execRes_6_E (s : State) : Result := .next (onFlat (resReg .i6 .e) s)

/-- `RES 6,H` (44_rotate_shift_bit.md R223). -/
def execRes_6_H (s : State) : Result := .next (onFlat (resReg .i6 .h) s)

/-- `RES 6,L` (44_rotate_shift_bit.md R223). -/
def execRes_6_L (s : State) : Result := .next (onFlat (resReg .i6 .l) s)

/-- `RES 6,[HL]` (44_rotate_shift_bit.md R224). -/
def execRes_6_atHL (s : State) : Result := .next (onFlat (resAtHL .i6) s)

/-- `RES 6,A` (44_rotate_shift_bit.md R223). -/
def execRes_6_A (s : State) : Result := .next (onFlat (resReg .i6 .a) s)

/-- `RES 7,B` (44_rotate_shift_bit.md R223). -/
def execRes_7_B (s : State) : Result := .next (onFlat (resReg .i7 .b) s)

/-- `RES 7,C` (44_rotate_shift_bit.md R223). -/
def execRes_7_C (s : State) : Result := .next (onFlat (resReg .i7 .c) s)

/-- `RES 7,D` (44_rotate_shift_bit.md R223). -/
def execRes_7_D (s : State) : Result := .next (onFlat (resReg .i7 .d) s)

/-- `RES 7,E` (44_rotate_shift_bit.md R223). -/
def execRes_7_E (s : State) : Result := .next (onFlat (resReg .i7 .e) s)

/-- `RES 7,H` (44_rotate_shift_bit.md R223). -/
def execRes_7_H (s : State) : Result := .next (onFlat (resReg .i7 .h) s)

/-- `RES 7,L` (44_rotate_shift_bit.md R223). -/
def execRes_7_L (s : State) : Result := .next (onFlat (resReg .i7 .l) s)

/-- `RES 7,[HL]` (44_rotate_shift_bit.md R224). -/
def execRes_7_atHL (s : State) : Result := .next (onFlat (resAtHL .i7) s)

/-- `RES 7,A` (44_rotate_shift_bit.md R223). -/
def execRes_7_A (s : State) : Result := .next (onFlat (resReg .i7 .a) s)

/-- `SET 0,B` (44_rotate_shift_bit.md R225). -/
def execSet_0_B (s : State) : Result := .next (onFlat (setBitReg .i0 .b) s)

/-- `SET 0,C` (44_rotate_shift_bit.md R225). -/
def execSet_0_C (s : State) : Result := .next (onFlat (setBitReg .i0 .c) s)

/-- `SET 0,D` (44_rotate_shift_bit.md R225). -/
def execSet_0_D (s : State) : Result := .next (onFlat (setBitReg .i0 .d) s)

/-- `SET 0,E` (44_rotate_shift_bit.md R225). -/
def execSet_0_E (s : State) : Result := .next (onFlat (setBitReg .i0 .e) s)

/-- `SET 0,H` (44_rotate_shift_bit.md R225). -/
def execSet_0_H (s : State) : Result := .next (onFlat (setBitReg .i0 .h) s)

/-- `SET 0,L` (44_rotate_shift_bit.md R225). -/
def execSet_0_L (s : State) : Result := .next (onFlat (setBitReg .i0 .l) s)

/-- `SET 0,[HL]` (44_rotate_shift_bit.md R226). -/
def execSet_0_atHL (s : State) : Result := .next (onFlat (setBitAtHL .i0) s)

/-- `SET 0,A` (44_rotate_shift_bit.md R225). -/
def execSet_0_A (s : State) : Result := .next (onFlat (setBitReg .i0 .a) s)

/-- `SET 1,B` (44_rotate_shift_bit.md R225). -/
def execSet_1_B (s : State) : Result := .next (onFlat (setBitReg .i1 .b) s)

/-- `SET 1,C` (44_rotate_shift_bit.md R225). -/
def execSet_1_C (s : State) : Result := .next (onFlat (setBitReg .i1 .c) s)

/-- `SET 1,D` (44_rotate_shift_bit.md R225). -/
def execSet_1_D (s : State) : Result := .next (onFlat (setBitReg .i1 .d) s)

/-- `SET 1,E` (44_rotate_shift_bit.md R225). -/
def execSet_1_E (s : State) : Result := .next (onFlat (setBitReg .i1 .e) s)

/-- `SET 1,H` (44_rotate_shift_bit.md R225). -/
def execSet_1_H (s : State) : Result := .next (onFlat (setBitReg .i1 .h) s)

/-- `SET 1,L` (44_rotate_shift_bit.md R225). -/
def execSet_1_L (s : State) : Result := .next (onFlat (setBitReg .i1 .l) s)

/-- `SET 1,[HL]` (44_rotate_shift_bit.md R226). -/
def execSet_1_atHL (s : State) : Result := .next (onFlat (setBitAtHL .i1) s)

/-- `SET 1,A` (44_rotate_shift_bit.md R225). -/
def execSet_1_A (s : State) : Result := .next (onFlat (setBitReg .i1 .a) s)

/-- `SET 2,B` (44_rotate_shift_bit.md R225). -/
def execSet_2_B (s : State) : Result := .next (onFlat (setBitReg .i2 .b) s)

/-- `SET 2,C` (44_rotate_shift_bit.md R225). -/
def execSet_2_C (s : State) : Result := .next (onFlat (setBitReg .i2 .c) s)

/-- `SET 2,D` (44_rotate_shift_bit.md R225). -/
def execSet_2_D (s : State) : Result := .next (onFlat (setBitReg .i2 .d) s)

/-- `SET 2,E` (44_rotate_shift_bit.md R225). -/
def execSet_2_E (s : State) : Result := .next (onFlat (setBitReg .i2 .e) s)

/-- `SET 2,H` (44_rotate_shift_bit.md R225). -/
def execSet_2_H (s : State) : Result := .next (onFlat (setBitReg .i2 .h) s)

/-- `SET 2,L` (44_rotate_shift_bit.md R225). -/
def execSet_2_L (s : State) : Result := .next (onFlat (setBitReg .i2 .l) s)

/-- `SET 2,[HL]` (44_rotate_shift_bit.md R226). -/
def execSet_2_atHL (s : State) : Result := .next (onFlat (setBitAtHL .i2) s)

/-- `SET 2,A` (44_rotate_shift_bit.md R225). -/
def execSet_2_A (s : State) : Result := .next (onFlat (setBitReg .i2 .a) s)

/-- `SET 3,B` (44_rotate_shift_bit.md R225). -/
def execSet_3_B (s : State) : Result := .next (onFlat (setBitReg .i3 .b) s)

/-- `SET 3,C` (44_rotate_shift_bit.md R225). -/
def execSet_3_C (s : State) : Result := .next (onFlat (setBitReg .i3 .c) s)

/-- `SET 3,D` (44_rotate_shift_bit.md R225). -/
def execSet_3_D (s : State) : Result := .next (onFlat (setBitReg .i3 .d) s)

/-- `SET 3,E` (44_rotate_shift_bit.md R225). -/
def execSet_3_E (s : State) : Result := .next (onFlat (setBitReg .i3 .e) s)

/-- `SET 3,H` (44_rotate_shift_bit.md R225). -/
def execSet_3_H (s : State) : Result := .next (onFlat (setBitReg .i3 .h) s)

/-- `SET 3,L` (44_rotate_shift_bit.md R225). -/
def execSet_3_L (s : State) : Result := .next (onFlat (setBitReg .i3 .l) s)

/-- `SET 3,[HL]` (44_rotate_shift_bit.md R226). -/
def execSet_3_atHL (s : State) : Result := .next (onFlat (setBitAtHL .i3) s)

/-- `SET 3,A` (44_rotate_shift_bit.md R225). -/
def execSet_3_A (s : State) : Result := .next (onFlat (setBitReg .i3 .a) s)

/-- `SET 4,B` (44_rotate_shift_bit.md R225). -/
def execSet_4_B (s : State) : Result := .next (onFlat (setBitReg .i4 .b) s)

/-- `SET 4,C` (44_rotate_shift_bit.md R225). -/
def execSet_4_C (s : State) : Result := .next (onFlat (setBitReg .i4 .c) s)

/-- `SET 4,D` (44_rotate_shift_bit.md R225). -/
def execSet_4_D (s : State) : Result := .next (onFlat (setBitReg .i4 .d) s)

/-- `SET 4,E` (44_rotate_shift_bit.md R225). -/
def execSet_4_E (s : State) : Result := .next (onFlat (setBitReg .i4 .e) s)

/-- `SET 4,H` (44_rotate_shift_bit.md R225). -/
def execSet_4_H (s : State) : Result := .next (onFlat (setBitReg .i4 .h) s)

/-- `SET 4,L` (44_rotate_shift_bit.md R225). -/
def execSet_4_L (s : State) : Result := .next (onFlat (setBitReg .i4 .l) s)

/-- `SET 4,[HL]` (44_rotate_shift_bit.md R226). -/
def execSet_4_atHL (s : State) : Result := .next (onFlat (setBitAtHL .i4) s)

/-- `SET 4,A` (44_rotate_shift_bit.md R225). -/
def execSet_4_A (s : State) : Result := .next (onFlat (setBitReg .i4 .a) s)

/-- `SET 5,B` (44_rotate_shift_bit.md R225). -/
def execSet_5_B (s : State) : Result := .next (onFlat (setBitReg .i5 .b) s)

/-- `SET 5,C` (44_rotate_shift_bit.md R225). -/
def execSet_5_C (s : State) : Result := .next (onFlat (setBitReg .i5 .c) s)

/-- `SET 5,D` (44_rotate_shift_bit.md R225). -/
def execSet_5_D (s : State) : Result := .next (onFlat (setBitReg .i5 .d) s)

/-- `SET 5,E` (44_rotate_shift_bit.md R225). -/
def execSet_5_E (s : State) : Result := .next (onFlat (setBitReg .i5 .e) s)

/-- `SET 5,H` (44_rotate_shift_bit.md R225). -/
def execSet_5_H (s : State) : Result := .next (onFlat (setBitReg .i5 .h) s)

/-- `SET 5,L` (44_rotate_shift_bit.md R225). -/
def execSet_5_L (s : State) : Result := .next (onFlat (setBitReg .i5 .l) s)

/-- `SET 5,[HL]` (44_rotate_shift_bit.md R226). -/
def execSet_5_atHL (s : State) : Result := .next (onFlat (setBitAtHL .i5) s)

/-- `SET 5,A` (44_rotate_shift_bit.md R225). -/
def execSet_5_A (s : State) : Result := .next (onFlat (setBitReg .i5 .a) s)

/-- `SET 6,B` (44_rotate_shift_bit.md R225). -/
def execSet_6_B (s : State) : Result := .next (onFlat (setBitReg .i6 .b) s)

/-- `SET 6,C` (44_rotate_shift_bit.md R225). -/
def execSet_6_C (s : State) : Result := .next (onFlat (setBitReg .i6 .c) s)

/-- `SET 6,D` (44_rotate_shift_bit.md R225). -/
def execSet_6_D (s : State) : Result := .next (onFlat (setBitReg .i6 .d) s)

/-- `SET 6,E` (44_rotate_shift_bit.md R225). -/
def execSet_6_E (s : State) : Result := .next (onFlat (setBitReg .i6 .e) s)

/-- `SET 6,H` (44_rotate_shift_bit.md R225). -/
def execSet_6_H (s : State) : Result := .next (onFlat (setBitReg .i6 .h) s)

/-- `SET 6,L` (44_rotate_shift_bit.md R225). -/
def execSet_6_L (s : State) : Result := .next (onFlat (setBitReg .i6 .l) s)

/-- `SET 6,[HL]` (44_rotate_shift_bit.md R226). -/
def execSet_6_atHL (s : State) : Result := .next (onFlat (setBitAtHL .i6) s)

/-- `SET 6,A` (44_rotate_shift_bit.md R225). -/
def execSet_6_A (s : State) : Result := .next (onFlat (setBitReg .i6 .a) s)

/-- `SET 7,B` (44_rotate_shift_bit.md R225). -/
def execSet_7_B (s : State) : Result := .next (onFlat (setBitReg .i7 .b) s)

/-- `SET 7,C` (44_rotate_shift_bit.md R225). -/
def execSet_7_C (s : State) : Result := .next (onFlat (setBitReg .i7 .c) s)

/-- `SET 7,D` (44_rotate_shift_bit.md R225). -/
def execSet_7_D (s : State) : Result := .next (onFlat (setBitReg .i7 .d) s)

/-- `SET 7,E` (44_rotate_shift_bit.md R225). -/
def execSet_7_E (s : State) : Result := .next (onFlat (setBitReg .i7 .e) s)

/-- `SET 7,H` (44_rotate_shift_bit.md R225). -/
def execSet_7_H (s : State) : Result := .next (onFlat (setBitReg .i7 .h) s)

/-- `SET 7,L` (44_rotate_shift_bit.md R225). -/
def execSet_7_L (s : State) : Result := .next (onFlat (setBitReg .i7 .l) s)

/-- `SET 7,[HL]` (44_rotate_shift_bit.md R226). -/
def execSet_7_atHL (s : State) : Result := .next (onFlat (setBitAtHL .i7) s)

/-- `SET 7,A` (44_rotate_shift_bit.md R225). -/
def execSet_7_A (s : State) : Result := .next (onFlat (setBitReg .i7 .a) s)

end Sys2Proof.Machine
end

