-- ==== Sys2Proof/Machine/Control.lean ====
section
/-! DEFINITION. Control flow (45_control.md R240 to R252): the effect of each form, then one meaning per
instruction. Every form fetches its immediates before it tests its condition. -/

namespace Sys2Proof.Machine

/-- `JR e8` (45_control.md R240): the base is the address after the instruction. -/
def jr (s : State) : BusProg State :=
  s.fetch8 fun e s => { s with pc := s.pc + sext16 e }.finish 3

/-- `JR cond,e8` (45_control.md R241). -/
def jrCond (cc : Cond) (s : State) : BusProg State :=
  s.fetch8 fun e s => if s.holds cc then { s with pc := s.pc + sext16 e }.finish 3 else s.finish 2

/-- `JP n16` (45_control.md R242). -/
def jp (s : State) : BusProg State :=
  s.fetch16 fun a s => { s with pc := a }.finish 4

/-- `JP cond,n16` (45_control.md R243). -/
def jpCond (cc : Cond) (s : State) : BusProg State :=
  s.fetch16 fun a s => if s.holds cc then { s with pc := a }.finish 4 else s.finish 3

/-- `JP HL` (45_control.md R244): the target is HL itself. -/
def jpHL (s : State) : BusProg State := { s with pc := s.hl }.finish 1

/-- PC pushed and control transferred, in `n` cycles (45_control.md R245, R246, R250). -/
def State.callTo (s : State) (a : Word) (n : Nat) : BusProg State :=
  s.push16 s.pc fun s => { s with pc := a }.finish n

/-- PC popped, in `n` cycles (45_control.md R247, R248). -/
def State.returnToCaller (s : State) (n : Nat) : BusProg State :=
  s.pop16 fun w s => { s with pc := w }.finish n

/-- `CALL n16` (45_control.md R245). -/
def call (s : State) : BusProg State := s.fetch16 fun a s => s.callTo a 6

/-- `CALL cond,n16` (45_control.md R246): not taken, nothing is pushed. -/
def callCond (cc : Cond) (s : State) : BusProg State :=
  s.fetch16 fun a s => if s.holds cc then s.callTo a 6 else s.finish 3

/-- `RET` (45_control.md R247). -/
def ret (s : State) : BusProg State := s.returnToCaller 4

/-- `RET cond` (45_control.md R248): not taken, the stack is not read. -/
def retCond (cc : Cond) (s : State) : BusProg State :=
  if s.holds cc then s.returnToCaller 5 else s.finish 2

/-- `RETI` (45_control.md R249). -/
def reti (s : State) : BusProg State := s.returnFromInterrupt fun s => s.finish 4

/-- `RST tgt3` (45_control.md R250): the target is `8 * tgt3`. -/
def rst (t : Idx3) (s : State) : BusProg State := s.callTo (BitVec.ofNat 16 (8 * t.num)) 4

/-- `JR e8` (45_control.md R240). -/
def execJr_e8 (s : State) : Result := .next (onFlat jr s)

/-- `JR NZ,e8` (45_control.md R241). -/
def execJr_NZ_e8 (s : State) : Result := .next (onFlat (jrCond .nz) s)

/-- `JR Z,e8` (45_control.md R241). -/
def execJr_Z_e8 (s : State) : Result := .next (onFlat (jrCond .z) s)

/-- `JR NC,e8` (45_control.md R241). -/
def execJr_NC_e8 (s : State) : Result := .next (onFlat (jrCond .nc) s)

/-- `JR C,e8` (45_control.md R241). -/
def execJr_C_e8 (s : State) : Result := .next (onFlat (jrCond .c) s)

/-- `RET NZ` (45_control.md R248). -/
def execRet_NZ (s : State) : Result := .next (onFlat (retCond .nz) s)

/-- `JP NZ,n16` (45_control.md R243). -/
def execJp_NZ_n16 (s : State) : Result := .next (onFlat (jpCond .nz) s)

/-- `JP n16` (45_control.md R242). -/
def execJp_n16 (s : State) : Result := .next (onFlat jp s)

/-- `CALL NZ,n16` (45_control.md R246). -/
def execCall_NZ_n16 (s : State) : Result := .next (onFlat (callCond .nz) s)

/-- `RST 0x00` (45_control.md R250). -/
def execRst_0x00 (s : State) : Result := .next (onFlat (rst .i0) s)

/-- `RET Z` (45_control.md R248). -/
def execRet_Z (s : State) : Result := .next (onFlat (retCond .z) s)

/-- `RET` (45_control.md R247). -/
def execRet (s : State) : Result := .next (onFlat ret s)

/-- `JP Z,n16` (45_control.md R243). -/
def execJp_Z_n16 (s : State) : Result := .next (onFlat (jpCond .z) s)

/-- `CALL Z,n16` (45_control.md R246). -/
def execCall_Z_n16 (s : State) : Result := .next (onFlat (callCond .z) s)

/-- `CALL n16` (45_control.md R245). -/
def execCall_n16 (s : State) : Result := .next (onFlat call s)

/-- `RST 0x08` (45_control.md R250). -/
def execRst_0x08 (s : State) : Result := .next (onFlat (rst .i1) s)

/-- `RET NC` (45_control.md R248). -/
def execRet_NC (s : State) : Result := .next (onFlat (retCond .nc) s)

/-- `JP NC,n16` (45_control.md R243). -/
def execJp_NC_n16 (s : State) : Result := .next (onFlat (jpCond .nc) s)

/-- `CALL NC,n16` (45_control.md R246). -/
def execCall_NC_n16 (s : State) : Result := .next (onFlat (callCond .nc) s)

/-- `RST 0x10` (45_control.md R250). -/
def execRst_0x10 (s : State) : Result := .next (onFlat (rst .i2) s)

/-- `RET C` (45_control.md R248). -/
def execRet_C (s : State) : Result := .next (onFlat (retCond .c) s)

/-- `RETI` (45_control.md R249). -/
def execReti (s : State) : Result := .next (onFlat reti s)

/-- `JP C,n16` (45_control.md R243). -/
def execJp_C_n16 (s : State) : Result := .next (onFlat (jpCond .c) s)

/-- `CALL C,n16` (45_control.md R246). -/
def execCall_C_n16 (s : State) : Result := .next (onFlat (callCond .c) s)

/-- `RST 0x18` (45_control.md R250). -/
def execRst_0x18 (s : State) : Result := .next (onFlat (rst .i3) s)

/-- `RST 0x20` (45_control.md R250). -/
def execRst_0x20 (s : State) : Result := .next (onFlat (rst .i4) s)

/-- `JP HL` (45_control.md R244). -/
def execJp_HL (s : State) : Result := .next (onFlat jpHL s)

/-- `RST 0x28` (45_control.md R250). -/
def execRst_0x28 (s : State) : Result := .next (onFlat (rst .i5) s)

/-- `RST 0x30` (45_control.md R250). -/
def execRst_0x30 (s : State) : Result := .next (onFlat (rst .i6) s)

/-- `RST 0x38` (45_control.md R250). -/
def execRst_0x38 (s : State) : Result := .next (onFlat (rst .i7) s)

end Sys2Proof.Machine
end

