-- ==== Sys2Proof/Machine/Load16.lean ====
section
/-! DEFINITION. 16-bit loads (41_load16.md R140 to R144): the effect of each form, then one meaning per
instruction. -/

namespace Sys2Proof.Machine

/-- `LD r16,n16` (41_load16.md R140): the low byte comes first. -/
def ldR16Imm (r : R16) (s : State) : BusProg State :=
  s.fetch16 fun w s => (s.setR16 r w).finish 3

/-- `LD [n16],SP` (41_load16.md R141): low byte at `n16`, then high byte at `n16 + 1`. -/
def ldAtImm16SP (s : State) : BusProg State :=
  s.fetch16 fun a s => .write16 a s.sp (s.finish 5)

/-- `LD SP,HL` (41_load16.md R142). -/
def ldSPHL (s : State) : BusProg State := { s with sp := s.hl }.finish 2

/-- `LD HL,SP+e8` (41_load16.md R143). -/
def ldHLSPe8 (s : State) : BusProg State :=
  s.fetch8 fun e s =>
    let r := addSpE8 s.sp e
    ((s.setHL r.val).setFlags false false r.h r.c).finish 3

/-- `LD BC,n16` (41_load16.md R140). -/
def execLd_BC_n16 (s : State) : Result := .next (onFlat (ldR16Imm .bc) s)

/-- `LD [n16],SP` (41_load16.md R141). -/
def execLd_atN16_SP (s : State) : Result := .next (onFlat ldAtImm16SP s)

/-- `LD DE,n16` (41_load16.md R140). -/
def execLd_DE_n16 (s : State) : Result := .next (onFlat (ldR16Imm .de) s)

/-- `LD HL,n16` (41_load16.md R140). -/
def execLd_HL_n16 (s : State) : Result := .next (onFlat (ldR16Imm .hl) s)

/-- `LD SP,n16` (41_load16.md R140). -/
def execLd_SP_n16 (s : State) : Result := .next (onFlat (ldR16Imm .sp) s)

/-- `LD HL,SP+e8` (41_load16.md R143). -/
def execLd_HL_SPe8 (s : State) : Result := .next (onFlat ldHLSPe8 s)

/-- `LD SP,HL` (41_load16.md R142). -/
def execLd_SP_HL (s : State) : Result := .next (onFlat ldSPHL s)

end Sys2Proof.Machine
end

