-- ==== Sys2Proof/Machine/Load8.lean ====
section
/-! DEFINITION. 8-bit loads (40_load8.md R110 to R123): the effect of each form, then one meaning per
instruction. No form reads or writes a flag (R123). -/

namespace Sys2Proof.Machine

/-- `LD r8,r8'` (40_load8.md R110). -/
def ldRegReg (dst src : Reg) (s : State) : BusProg State := (s.setReg dst (s.reg src)).finish 1

/-- `LD r8,[HL]` (40_load8.md R111): the address is formed before the write. -/
def ldRegAtHL (dst : Reg) (s : State) : BusProg State :=
  .read s.hl fun v => (s.setReg dst v).finish 2

/-- `LD [HL],r8` (40_load8.md R112). -/
def ldAtHLReg (r : Reg) (s : State) : BusProg State := .write s.hl (s.reg r) (s.finish 2)

/-- `LD r8,n8` (40_load8.md R113). -/
def ldRegImm (dst : Reg) (s : State) : BusProg State :=
  s.fetch8 fun n s => (s.setReg dst n).finish 2

/-- `LD [HL],n8` (40_load8.md R114): the immediate is fetched before the write. -/
def ldAtHLImm (s : State) : BusProg State :=
  s.fetch8 fun n s => .write s.hl n (s.finish 3)

/-- `LD [r16mem],A` (40_load8.md R115). -/
def ldMemA (m : R16Mem) (s : State) : BusProg State :=
  let (a, s) := s.r16mem m
  .write a s.a (s.finish 2)

/-- `LD A,[r16mem]` (40_load8.md R116). -/
def ldAMem (m : R16Mem) (s : State) : BusProg State :=
  let (a, s) := s.r16mem m
  .read a fun v => { s with a := v }.finish 2

/-- `LDH [C],A` (40_load8.md R117). -/
def ldhAtCA (s : State) : BusProg State := .write (highPage s.c) s.a (s.finish 2)

/-- `LDH A,[C]` (40_load8.md R118). -/
def ldhAAtC (s : State) : BusProg State :=
  .read (highPage s.c) fun v => { s with a := v }.finish 2

/-- `LDH [n8],A` (40_load8.md R119). -/
def ldhAtImmA (s : State) : BusProg State :=
  s.fetch8 fun n s => .write (highPage n) s.a (s.finish 3)

/-- `LDH A,[n8]` (40_load8.md R120). -/
def ldhAAtImm (s : State) : BusProg State :=
  s.fetch8 fun n s => .read (highPage n) fun v => { s with a := v }.finish 3

/-- `LD [n16],A` (40_load8.md R121). -/
def ldAtImm16A (s : State) : BusProg State :=
  s.fetch16 fun a s => .write a s.a (s.finish 4)

/-- `LD A,[n16]` (40_load8.md R122). -/
def ldAAtImm16 (s : State) : BusProg State :=
  s.fetch16 fun a s => .read a fun v => { s with a := v }.finish 4

/-- `LD [BC],A` (40_load8.md R115). -/
def execLd_atBC_A (s : State) : Result := .next (onFlat (ldMemA .bc) s)

/-- `LD B,n8` (40_load8.md R113). -/
def execLd_B_n8 (s : State) : Result := .next (onFlat (ldRegImm .b) s)

/-- `LD A,[BC]` (40_load8.md R116). -/
def execLd_A_atBC (s : State) : Result := .next (onFlat (ldAMem .bc) s)

/-- `LD C,n8` (40_load8.md R113). -/
def execLd_C_n8 (s : State) : Result := .next (onFlat (ldRegImm .c) s)

/-- `LD [DE],A` (40_load8.md R115). -/
def execLd_atDE_A (s : State) : Result := .next (onFlat (ldMemA .de) s)

/-- `LD D,n8` (40_load8.md R113). -/
def execLd_D_n8 (s : State) : Result := .next (onFlat (ldRegImm .d) s)

/-- `LD A,[DE]` (40_load8.md R116). -/
def execLd_A_atDE (s : State) : Result := .next (onFlat (ldAMem .de) s)

/-- `LD E,n8` (40_load8.md R113). -/
def execLd_E_n8 (s : State) : Result := .next (onFlat (ldRegImm .e) s)

/-- `LD [HL+],A` (40_load8.md R115). -/
def execLd_atHLinc_A (s : State) : Result := .next (onFlat (ldMemA .hlInc) s)

/-- `LD H,n8` (40_load8.md R113). -/
def execLd_H_n8 (s : State) : Result := .next (onFlat (ldRegImm .h) s)

/-- `LD A,[HL+]` (40_load8.md R116). -/
def execLd_A_atHLinc (s : State) : Result := .next (onFlat (ldAMem .hlInc) s)

/-- `LD L,n8` (40_load8.md R113). -/
def execLd_L_n8 (s : State) : Result := .next (onFlat (ldRegImm .l) s)

/-- `LD [HL-],A` (40_load8.md R115). -/
def execLd_atHLdec_A (s : State) : Result := .next (onFlat (ldMemA .hlDec) s)

/-- `LD [HL],n8` (40_load8.md R114). -/
def execLd_atHL_n8 (s : State) : Result := .next (onFlat ldAtHLImm s)

/-- `LD A,[HL-]` (40_load8.md R116). -/
def execLd_A_atHLdec (s : State) : Result := .next (onFlat (ldAMem .hlDec) s)

/-- `LD A,n8` (40_load8.md R113). -/
def execLd_A_n8 (s : State) : Result := .next (onFlat (ldRegImm .a) s)

/-- `LD B,B` (40_load8.md R110). -/
def execLd_B_B (s : State) : Result := .next (onFlat (ldRegReg .b .b) s)

/-- `LD B,C` (40_load8.md R110). -/
def execLd_B_C (s : State) : Result := .next (onFlat (ldRegReg .b .c) s)

/-- `LD B,D` (40_load8.md R110). -/
def execLd_B_D (s : State) : Result := .next (onFlat (ldRegReg .b .d) s)

/-- `LD B,E` (40_load8.md R110). -/
def execLd_B_E (s : State) : Result := .next (onFlat (ldRegReg .b .e) s)

/-- `LD B,H` (40_load8.md R110). -/
def execLd_B_H (s : State) : Result := .next (onFlat (ldRegReg .b .h) s)

/-- `LD B,L` (40_load8.md R110). -/
def execLd_B_L (s : State) : Result := .next (onFlat (ldRegReg .b .l) s)

/-- `LD B,[HL]` (40_load8.md R111). -/
def execLd_B_atHL (s : State) : Result := .next (onFlat (ldRegAtHL .b) s)

/-- `LD B,A` (40_load8.md R110). -/
def execLd_B_A (s : State) : Result := .next (onFlat (ldRegReg .b .a) s)

/-- `LD C,B` (40_load8.md R110). -/
def execLd_C_B (s : State) : Result := .next (onFlat (ldRegReg .c .b) s)

/-- `LD C,C` (40_load8.md R110). -/
def execLd_C_C (s : State) : Result := .next (onFlat (ldRegReg .c .c) s)

/-- `LD C,D` (40_load8.md R110). -/
def execLd_C_D (s : State) : Result := .next (onFlat (ldRegReg .c .d) s)

/-- `LD C,E` (40_load8.md R110). -/
def execLd_C_E (s : State) : Result := .next (onFlat (ldRegReg .c .e) s)

/-- `LD C,H` (40_load8.md R110). -/
def execLd_C_H (s : State) : Result := .next (onFlat (ldRegReg .c .h) s)

/-- `LD C,L` (40_load8.md R110). -/
def execLd_C_L (s : State) : Result := .next (onFlat (ldRegReg .c .l) s)

/-- `LD C,[HL]` (40_load8.md R111). -/
def execLd_C_atHL (s : State) : Result := .next (onFlat (ldRegAtHL .c) s)

/-- `LD C,A` (40_load8.md R110). -/
def execLd_C_A (s : State) : Result := .next (onFlat (ldRegReg .c .a) s)

/-- `LD D,B` (40_load8.md R110). -/
def execLd_D_B (s : State) : Result := .next (onFlat (ldRegReg .d .b) s)

/-- `LD D,C` (40_load8.md R110). -/
def execLd_D_C (s : State) : Result := .next (onFlat (ldRegReg .d .c) s)

/-- `LD D,D` (40_load8.md R110). -/
def execLd_D_D (s : State) : Result := .next (onFlat (ldRegReg .d .d) s)

/-- `LD D,E` (40_load8.md R110). -/
def execLd_D_E (s : State) : Result := .next (onFlat (ldRegReg .d .e) s)

/-- `LD D,H` (40_load8.md R110). -/
def execLd_D_H (s : State) : Result := .next (onFlat (ldRegReg .d .h) s)

/-- `LD D,L` (40_load8.md R110). -/
def execLd_D_L (s : State) : Result := .next (onFlat (ldRegReg .d .l) s)

/-- `LD D,[HL]` (40_load8.md R111). -/
def execLd_D_atHL (s : State) : Result := .next (onFlat (ldRegAtHL .d) s)

/-- `LD D,A` (40_load8.md R110). -/
def execLd_D_A (s : State) : Result := .next (onFlat (ldRegReg .d .a) s)

/-- `LD E,B` (40_load8.md R110). -/
def execLd_E_B (s : State) : Result := .next (onFlat (ldRegReg .e .b) s)

/-- `LD E,C` (40_load8.md R110). -/
def execLd_E_C (s : State) : Result := .next (onFlat (ldRegReg .e .c) s)

/-- `LD E,D` (40_load8.md R110). -/
def execLd_E_D (s : State) : Result := .next (onFlat (ldRegReg .e .d) s)

/-- `LD E,E` (40_load8.md R110). -/
def execLd_E_E (s : State) : Result := .next (onFlat (ldRegReg .e .e) s)

/-- `LD E,H` (40_load8.md R110). -/
def execLd_E_H (s : State) : Result := .next (onFlat (ldRegReg .e .h) s)

/-- `LD E,L` (40_load8.md R110). -/
def execLd_E_L (s : State) : Result := .next (onFlat (ldRegReg .e .l) s)

/-- `LD E,[HL]` (40_load8.md R111). -/
def execLd_E_atHL (s : State) : Result := .next (onFlat (ldRegAtHL .e) s)

/-- `LD E,A` (40_load8.md R110). -/
def execLd_E_A (s : State) : Result := .next (onFlat (ldRegReg .e .a) s)

/-- `LD H,B` (40_load8.md R110). -/
def execLd_H_B (s : State) : Result := .next (onFlat (ldRegReg .h .b) s)

/-- `LD H,C` (40_load8.md R110). -/
def execLd_H_C (s : State) : Result := .next (onFlat (ldRegReg .h .c) s)

/-- `LD H,D` (40_load8.md R110). -/
def execLd_H_D (s : State) : Result := .next (onFlat (ldRegReg .h .d) s)

/-- `LD H,E` (40_load8.md R110). -/
def execLd_H_E (s : State) : Result := .next (onFlat (ldRegReg .h .e) s)

/-- `LD H,H` (40_load8.md R110). -/
def execLd_H_H (s : State) : Result := .next (onFlat (ldRegReg .h .h) s)

/-- `LD H,L` (40_load8.md R110). -/
def execLd_H_L (s : State) : Result := .next (onFlat (ldRegReg .h .l) s)

/-- `LD H,[HL]` (40_load8.md R111). -/
def execLd_H_atHL (s : State) : Result := .next (onFlat (ldRegAtHL .h) s)

/-- `LD H,A` (40_load8.md R110). -/
def execLd_H_A (s : State) : Result := .next (onFlat (ldRegReg .h .a) s)

/-- `LD L,B` (40_load8.md R110). -/
def execLd_L_B (s : State) : Result := .next (onFlat (ldRegReg .l .b) s)

/-- `LD L,C` (40_load8.md R110). -/
def execLd_L_C (s : State) : Result := .next (onFlat (ldRegReg .l .c) s)

/-- `LD L,D` (40_load8.md R110). -/
def execLd_L_D (s : State) : Result := .next (onFlat (ldRegReg .l .d) s)

/-- `LD L,E` (40_load8.md R110). -/
def execLd_L_E (s : State) : Result := .next (onFlat (ldRegReg .l .e) s)

/-- `LD L,H` (40_load8.md R110). -/
def execLd_L_H (s : State) : Result := .next (onFlat (ldRegReg .l .h) s)

/-- `LD L,L` (40_load8.md R110). -/
def execLd_L_L (s : State) : Result := .next (onFlat (ldRegReg .l .l) s)

/-- `LD L,[HL]` (40_load8.md R111). -/
def execLd_L_atHL (s : State) : Result := .next (onFlat (ldRegAtHL .l) s)

/-- `LD L,A` (40_load8.md R110). -/
def execLd_L_A (s : State) : Result := .next (onFlat (ldRegReg .l .a) s)

/-- `LD [HL],B` (40_load8.md R112). -/
def execLd_atHL_B (s : State) : Result := .next (onFlat (ldAtHLReg .b) s)

/-- `LD [HL],C` (40_load8.md R112). -/
def execLd_atHL_C (s : State) : Result := .next (onFlat (ldAtHLReg .c) s)

/-- `LD [HL],D` (40_load8.md R112). -/
def execLd_atHL_D (s : State) : Result := .next (onFlat (ldAtHLReg .d) s)

/-- `LD [HL],E` (40_load8.md R112). -/
def execLd_atHL_E (s : State) : Result := .next (onFlat (ldAtHLReg .e) s)

/-- `LD [HL],H` (40_load8.md R112). -/
def execLd_atHL_H (s : State) : Result := .next (onFlat (ldAtHLReg .h) s)

/-- `LD [HL],L` (40_load8.md R112). -/
def execLd_atHL_L (s : State) : Result := .next (onFlat (ldAtHLReg .l) s)

/-- `LD [HL],A` (40_load8.md R112). -/
def execLd_atHL_A (s : State) : Result := .next (onFlat (ldAtHLReg .a) s)

/-- `LD A,B` (40_load8.md R110). -/
def execLd_A_B (s : State) : Result := .next (onFlat (ldRegReg .a .b) s)

/-- `LD A,C` (40_load8.md R110). -/
def execLd_A_C (s : State) : Result := .next (onFlat (ldRegReg .a .c) s)

/-- `LD A,D` (40_load8.md R110). -/
def execLd_A_D (s : State) : Result := .next (onFlat (ldRegReg .a .d) s)

/-- `LD A,E` (40_load8.md R110). -/
def execLd_A_E (s : State) : Result := .next (onFlat (ldRegReg .a .e) s)

/-- `LD A,H` (40_load8.md R110). -/
def execLd_A_H (s : State) : Result := .next (onFlat (ldRegReg .a .h) s)

/-- `LD A,L` (40_load8.md R110). -/
def execLd_A_L (s : State) : Result := .next (onFlat (ldRegReg .a .l) s)

/-- `LD A,[HL]` (40_load8.md R111). -/
def execLd_A_atHL (s : State) : Result := .next (onFlat (ldRegAtHL .a) s)

/-- `LD A,A` (40_load8.md R110). -/
def execLd_A_A (s : State) : Result := .next (onFlat (ldRegReg .a .a) s)

/-- `LDH [n8],A` (40_load8.md R119). -/
def execLdh_atN8_A (s : State) : Result := .next (onFlat ldhAtImmA s)

/-- `LDH [C],A` (40_load8.md R117). -/
def execLdh_atC_A (s : State) : Result := .next (onFlat ldhAtCA s)

/-- `LD [n16],A` (40_load8.md R121). -/
def execLd_atN16_A (s : State) : Result := .next (onFlat ldAtImm16A s)

/-- `LDH A,[n8]` (40_load8.md R120). -/
def execLdh_A_atN8 (s : State) : Result := .next (onFlat ldhAAtImm s)

/-- `LDH A,[C]` (40_load8.md R118). -/
def execLdh_A_atC (s : State) : Result := .next (onFlat ldhAAtC s)

/-- `LD A,[n16]` (40_load8.md R122). -/
def execLd_A_atN16 (s : State) : Result := .next (onFlat ldAAtImm16 s)

end Sys2Proof.Machine
end

