-- ==== Sys2Proof/Machine/Rotate.lean ====
section
/-! DEFINITION. Rotates and shifts (44_rotate_shift_bit.md R200 to R220): the effect of each form, then
one meaning per instruction. -/

namespace Sys2Proof.Machine

/-- `RLCA`, `RRCA`, `RLA`, `RRA` (44_rotate_shift_bit.md R200 to R203): Z, N and H are cleared. -/
def rotA (op : RotOp) (s : State) : BusProg State :=
  let (r, c) := rotate op s.a s.flagC
  ({ s with a := r }.setFlags false false false c).finish 1

/-- An extended rotate or shift of an `r8` operand in `n` cycles (44_rotate_shift_bit.md R205 to R220): Z from the
result, N and H cleared. -/
def State.rotOperand (s : State) (op : RotOp) (o : R8) (n : Nat) : BusProg State :=
  s.readR8 o fun v =>
    let (r, c) := rotate op v s.flagC
    s.writeR8 o r fun s => (s.setFlags (r == 0) false false c).finish n

/-- The register forms (44_rotate_shift_bit.md R205, R207, R209, R211, R213, R215, R217, R219). -/
def rotReg (op : RotOp) (r : Reg) (s : State) : BusProg State := s.rotOperand op (.reg r) 2

/-- The `[HL]` forms (44_rotate_shift_bit.md R206, R208, R210, R212, R214, R216, R218, R220). -/
def rotAtHL (op : RotOp) (s : State) : BusProg State := s.rotOperand op .atHL 4

/-- `RLCA` (44_rotate_shift_bit.md R200). -/
def execRlca (s : State) : Result := .next (onFlat (rotA .rlc) s)

/-- `RRCA` (44_rotate_shift_bit.md R201). -/
def execRrca (s : State) : Result := .next (onFlat (rotA .rrc) s)

/-- `RLA` (44_rotate_shift_bit.md R202). -/
def execRla (s : State) : Result := .next (onFlat (rotA .rl) s)

/-- `RRA` (44_rotate_shift_bit.md R203). -/
def execRra (s : State) : Result := .next (onFlat (rotA .rr) s)

/-- `RLC B` (44_rotate_shift_bit.md R205). -/
def execRlc_B (s : State) : Result := .next (onFlat (rotReg .rlc .b) s)

/-- `RLC C` (44_rotate_shift_bit.md R205). -/
def execRlc_C (s : State) : Result := .next (onFlat (rotReg .rlc .c) s)

/-- `RLC D` (44_rotate_shift_bit.md R205). -/
def execRlc_D (s : State) : Result := .next (onFlat (rotReg .rlc .d) s)

/-- `RLC E` (44_rotate_shift_bit.md R205). -/
def execRlc_E (s : State) : Result := .next (onFlat (rotReg .rlc .e) s)

/-- `RLC H` (44_rotate_shift_bit.md R205). -/
def execRlc_H (s : State) : Result := .next (onFlat (rotReg .rlc .h) s)

/-- `RLC L` (44_rotate_shift_bit.md R205). -/
def execRlc_L (s : State) : Result := .next (onFlat (rotReg .rlc .l) s)

/-- `RLC [HL]` (44_rotate_shift_bit.md R206). -/
def execRlc_atHL (s : State) : Result := .next (onFlat (rotAtHL .rlc) s)

/-- `RLC A` (44_rotate_shift_bit.md R205). -/
def execRlc_A (s : State) : Result := .next (onFlat (rotReg .rlc .a) s)

/-- `RRC B` (44_rotate_shift_bit.md R207). -/
def execRrc_B (s : State) : Result := .next (onFlat (rotReg .rrc .b) s)

/-- `RRC C` (44_rotate_shift_bit.md R207). -/
def execRrc_C (s : State) : Result := .next (onFlat (rotReg .rrc .c) s)

/-- `RRC D` (44_rotate_shift_bit.md R207). -/
def execRrc_D (s : State) : Result := .next (onFlat (rotReg .rrc .d) s)

/-- `RRC E` (44_rotate_shift_bit.md R207). -/
def execRrc_E (s : State) : Result := .next (onFlat (rotReg .rrc .e) s)

/-- `RRC H` (44_rotate_shift_bit.md R207). -/
def execRrc_H (s : State) : Result := .next (onFlat (rotReg .rrc .h) s)

/-- `RRC L` (44_rotate_shift_bit.md R207). -/
def execRrc_L (s : State) : Result := .next (onFlat (rotReg .rrc .l) s)

/-- `RRC [HL]` (44_rotate_shift_bit.md R208). -/
def execRrc_atHL (s : State) : Result := .next (onFlat (rotAtHL .rrc) s)

/-- `RRC A` (44_rotate_shift_bit.md R207). -/
def execRrc_A (s : State) : Result := .next (onFlat (rotReg .rrc .a) s)

/-- `RL B` (44_rotate_shift_bit.md R209). -/
def execRl_B (s : State) : Result := .next (onFlat (rotReg .rl .b) s)

/-- `RL C` (44_rotate_shift_bit.md R209). -/
def execRl_C (s : State) : Result := .next (onFlat (rotReg .rl .c) s)

/-- `RL D` (44_rotate_shift_bit.md R209). -/
def execRl_D (s : State) : Result := .next (onFlat (rotReg .rl .d) s)

/-- `RL E` (44_rotate_shift_bit.md R209). -/
def execRl_E (s : State) : Result := .next (onFlat (rotReg .rl .e) s)

/-- `RL H` (44_rotate_shift_bit.md R209). -/
def execRl_H (s : State) : Result := .next (onFlat (rotReg .rl .h) s)

/-- `RL L` (44_rotate_shift_bit.md R209). -/
def execRl_L (s : State) : Result := .next (onFlat (rotReg .rl .l) s)

/-- `RL [HL]` (44_rotate_shift_bit.md R210). -/
def execRl_atHL (s : State) : Result := .next (onFlat (rotAtHL .rl) s)

/-- `RL A` (44_rotate_shift_bit.md R209). -/
def execRl_A (s : State) : Result := .next (onFlat (rotReg .rl .a) s)

/-- `RR B` (44_rotate_shift_bit.md R211). -/
def execRr_B (s : State) : Result := .next (onFlat (rotReg .rr .b) s)

/-- `RR C` (44_rotate_shift_bit.md R211). -/
def execRr_C (s : State) : Result := .next (onFlat (rotReg .rr .c) s)

/-- `RR D` (44_rotate_shift_bit.md R211). -/
def execRr_D (s : State) : Result := .next (onFlat (rotReg .rr .d) s)

/-- `RR E` (44_rotate_shift_bit.md R211). -/
def execRr_E (s : State) : Result := .next (onFlat (rotReg .rr .e) s)

/-- `RR H` (44_rotate_shift_bit.md R211). -/
def execRr_H (s : State) : Result := .next (onFlat (rotReg .rr .h) s)

/-- `RR L` (44_rotate_shift_bit.md R211). -/
def execRr_L (s : State) : Result := .next (onFlat (rotReg .rr .l) s)

/-- `RR [HL]` (44_rotate_shift_bit.md R212). -/
def execRr_atHL (s : State) : Result := .next (onFlat (rotAtHL .rr) s)

/-- `RR A` (44_rotate_shift_bit.md R211). -/
def execRr_A (s : State) : Result := .next (onFlat (rotReg .rr .a) s)

/-- `SLA B` (44_rotate_shift_bit.md R213). -/
def execSla_B (s : State) : Result := .next (onFlat (rotReg .sla .b) s)

/-- `SLA C` (44_rotate_shift_bit.md R213). -/
def execSla_C (s : State) : Result := .next (onFlat (rotReg .sla .c) s)

/-- `SLA D` (44_rotate_shift_bit.md R213). -/
def execSla_D (s : State) : Result := .next (onFlat (rotReg .sla .d) s)

/-- `SLA E` (44_rotate_shift_bit.md R213). -/
def execSla_E (s : State) : Result := .next (onFlat (rotReg .sla .e) s)

/-- `SLA H` (44_rotate_shift_bit.md R213). -/
def execSla_H (s : State) : Result := .next (onFlat (rotReg .sla .h) s)

/-- `SLA L` (44_rotate_shift_bit.md R213). -/
def execSla_L (s : State) : Result := .next (onFlat (rotReg .sla .l) s)

/-- `SLA [HL]` (44_rotate_shift_bit.md R214). -/
def execSla_atHL (s : State) : Result := .next (onFlat (rotAtHL .sla) s)

/-- `SLA A` (44_rotate_shift_bit.md R213). -/
def execSla_A (s : State) : Result := .next (onFlat (rotReg .sla .a) s)

/-- `SRA B` (44_rotate_shift_bit.md R215). -/
def execSra_B (s : State) : Result := .next (onFlat (rotReg .sra .b) s)

/-- `SRA C` (44_rotate_shift_bit.md R215). -/
def execSra_C (s : State) : Result := .next (onFlat (rotReg .sra .c) s)

/-- `SRA D` (44_rotate_shift_bit.md R215). -/
def execSra_D (s : State) : Result := .next (onFlat (rotReg .sra .d) s)

/-- `SRA E` (44_rotate_shift_bit.md R215). -/
def execSra_E (s : State) : Result := .next (onFlat (rotReg .sra .e) s)

/-- `SRA H` (44_rotate_shift_bit.md R215). -/
def execSra_H (s : State) : Result := .next (onFlat (rotReg .sra .h) s)

/-- `SRA L` (44_rotate_shift_bit.md R215). -/
def execSra_L (s : State) : Result := .next (onFlat (rotReg .sra .l) s)

/-- `SRA [HL]` (44_rotate_shift_bit.md R216). -/
def execSra_atHL (s : State) : Result := .next (onFlat (rotAtHL .sra) s)

/-- `SRA A` (44_rotate_shift_bit.md R215). -/
def execSra_A (s : State) : Result := .next (onFlat (rotReg .sra .a) s)

/-- `SWAP B` (44_rotate_shift_bit.md R217). -/
def execSwap_B (s : State) : Result := .next (onFlat (rotReg .swap .b) s)

/-- `SWAP C` (44_rotate_shift_bit.md R217). -/
def execSwap_C (s : State) : Result := .next (onFlat (rotReg .swap .c) s)

/-- `SWAP D` (44_rotate_shift_bit.md R217). -/
def execSwap_D (s : State) : Result := .next (onFlat (rotReg .swap .d) s)

/-- `SWAP E` (44_rotate_shift_bit.md R217). -/
def execSwap_E (s : State) : Result := .next (onFlat (rotReg .swap .e) s)

/-- `SWAP H` (44_rotate_shift_bit.md R217). -/
def execSwap_H (s : State) : Result := .next (onFlat (rotReg .swap .h) s)

/-- `SWAP L` (44_rotate_shift_bit.md R217). -/
def execSwap_L (s : State) : Result := .next (onFlat (rotReg .swap .l) s)

/-- `SWAP [HL]` (44_rotate_shift_bit.md R218). -/
def execSwap_atHL (s : State) : Result := .next (onFlat (rotAtHL .swap) s)

/-- `SWAP A` (44_rotate_shift_bit.md R217). -/
def execSwap_A (s : State) : Result := .next (onFlat (rotReg .swap .a) s)

/-- `SRL B` (44_rotate_shift_bit.md R219). -/
def execSrl_B (s : State) : Result := .next (onFlat (rotReg .srl .b) s)

/-- `SRL C` (44_rotate_shift_bit.md R219). -/
def execSrl_C (s : State) : Result := .next (onFlat (rotReg .srl .c) s)

/-- `SRL D` (44_rotate_shift_bit.md R219). -/
def execSrl_D (s : State) : Result := .next (onFlat (rotReg .srl .d) s)

/-- `SRL E` (44_rotate_shift_bit.md R219). -/
def execSrl_E (s : State) : Result := .next (onFlat (rotReg .srl .e) s)

/-- `SRL H` (44_rotate_shift_bit.md R219). -/
def execSrl_H (s : State) : Result := .next (onFlat (rotReg .srl .h) s)

/-- `SRL L` (44_rotate_shift_bit.md R219). -/
def execSrl_L (s : State) : Result := .next (onFlat (rotReg .srl .l) s)

/-- `SRL [HL]` (44_rotate_shift_bit.md R220). -/
def execSrl_atHL (s : State) : Result := .next (onFlat (rotAtHL .srl) s)

/-- `SRL A` (44_rotate_shift_bit.md R219). -/
def execSrl_A (s : State) : Result := .next (onFlat (rotReg .srl .a) s)

end Sys2Proof.Machine
end

