-- ==== Sys2Proof/Machine/Prefix.lean ====
section
/-! DEFINITION. The prefix byte 0xCB (47_system.md R275): which meaning each byte of the extended table has
(30_encoding.md R88), and the meaning of the prefix, which fetches the second byte and runs it. -/

namespace Sys2Proof.Machine

/-- The meanings of the rows extended rotate or shift on `r8` (30_encoding.md R88). -/
def extRotReg : RotOp → Reg → State → Result
  | .rlc, .b => execRlc_B
  | .rlc, .c => execRlc_C
  | .rlc, .d => execRlc_D
  | .rlc, .e => execRlc_E
  | .rlc, .h => execRlc_H
  | .rlc, .l => execRlc_L
  | .rlc, .a => execRlc_A
  | .rrc, .b => execRrc_B
  | .rrc, .c => execRrc_C
  | .rrc, .d => execRrc_D
  | .rrc, .e => execRrc_E
  | .rrc, .h => execRrc_H
  | .rrc, .l => execRrc_L
  | .rrc, .a => execRrc_A
  | .rl, .b => execRl_B
  | .rl, .c => execRl_C
  | .rl, .d => execRl_D
  | .rl, .e => execRl_E
  | .rl, .h => execRl_H
  | .rl, .l => execRl_L
  | .rl, .a => execRl_A
  | .rr, .b => execRr_B
  | .rr, .c => execRr_C
  | .rr, .d => execRr_D
  | .rr, .e => execRr_E
  | .rr, .h => execRr_H
  | .rr, .l => execRr_L
  | .rr, .a => execRr_A
  | .sla, .b => execSla_B
  | .sla, .c => execSla_C
  | .sla, .d => execSla_D
  | .sla, .e => execSla_E
  | .sla, .h => execSla_H
  | .sla, .l => execSla_L
  | .sla, .a => execSla_A
  | .sra, .b => execSra_B
  | .sra, .c => execSra_C
  | .sra, .d => execSra_D
  | .sra, .e => execSra_E
  | .sra, .h => execSra_H
  | .sra, .l => execSra_L
  | .sra, .a => execSra_A
  | .swap, .b => execSwap_B
  | .swap, .c => execSwap_C
  | .swap, .d => execSwap_D
  | .swap, .e => execSwap_E
  | .swap, .h => execSwap_H
  | .swap, .l => execSwap_L
  | .swap, .a => execSwap_A
  | .srl, .b => execSrl_B
  | .srl, .c => execSrl_C
  | .srl, .d => execSrl_D
  | .srl, .e => execSrl_E
  | .srl, .h => execSrl_H
  | .srl, .l => execSrl_L
  | .srl, .a => execSrl_A

/-- The meanings of the rows extended rotate or shift on `[HL]` (30_encoding.md R88). -/
def extRotAtHL : RotOp → State → Result
  | .rlc => execRlc_atHL
  | .rrc => execRrc_atHL
  | .rl => execRl_atHL
  | .rr => execRr_atHL
  | .sla => execSla_atHL
  | .sra => execSra_atHL
  | .swap => execSwap_atHL
  | .srl => execSrl_atHL

/-- The meanings of the rows `BIT b3,r8` (30_encoding.md R88). -/
def extBitReg : Idx3 → Reg → State → Result
  | .i0, .b => execBit_0_B
  | .i0, .c => execBit_0_C
  | .i0, .d => execBit_0_D
  | .i0, .e => execBit_0_E
  | .i0, .h => execBit_0_H
  | .i0, .l => execBit_0_L
  | .i0, .a => execBit_0_A
  | .i1, .b => execBit_1_B
  | .i1, .c => execBit_1_C
  | .i1, .d => execBit_1_D
  | .i1, .e => execBit_1_E
  | .i1, .h => execBit_1_H
  | .i1, .l => execBit_1_L
  | .i1, .a => execBit_1_A
  | .i2, .b => execBit_2_B
  | .i2, .c => execBit_2_C
  | .i2, .d => execBit_2_D
  | .i2, .e => execBit_2_E
  | .i2, .h => execBit_2_H
  | .i2, .l => execBit_2_L
  | .i2, .a => execBit_2_A
  | .i3, .b => execBit_3_B
  | .i3, .c => execBit_3_C
  | .i3, .d => execBit_3_D
  | .i3, .e => execBit_3_E
  | .i3, .h => execBit_3_H
  | .i3, .l => execBit_3_L
  | .i3, .a => execBit_3_A
  | .i4, .b => execBit_4_B
  | .i4, .c => execBit_4_C
  | .i4, .d => execBit_4_D
  | .i4, .e => execBit_4_E
  | .i4, .h => execBit_4_H
  | .i4, .l => execBit_4_L
  | .i4, .a => execBit_4_A
  | .i5, .b => execBit_5_B
  | .i5, .c => execBit_5_C
  | .i5, .d => execBit_5_D
  | .i5, .e => execBit_5_E
  | .i5, .h => execBit_5_H
  | .i5, .l => execBit_5_L
  | .i5, .a => execBit_5_A
  | .i6, .b => execBit_6_B
  | .i6, .c => execBit_6_C
  | .i6, .d => execBit_6_D
  | .i6, .e => execBit_6_E
  | .i6, .h => execBit_6_H
  | .i6, .l => execBit_6_L
  | .i6, .a => execBit_6_A
  | .i7, .b => execBit_7_B
  | .i7, .c => execBit_7_C
  | .i7, .d => execBit_7_D
  | .i7, .e => execBit_7_E
  | .i7, .h => execBit_7_H
  | .i7, .l => execBit_7_L
  | .i7, .a => execBit_7_A

/-- The meanings of the rows `BIT b3,[HL]` (30_encoding.md R88). -/
def extBitAtHL : Idx3 → State → Result
  | .i0 => execBit_0_atHL
  | .i1 => execBit_1_atHL
  | .i2 => execBit_2_atHL
  | .i3 => execBit_3_atHL
  | .i4 => execBit_4_atHL
  | .i5 => execBit_5_atHL
  | .i6 => execBit_6_atHL
  | .i7 => execBit_7_atHL

/-- The meanings of the rows `RES b3,r8` (30_encoding.md R88). -/
def extResReg : Idx3 → Reg → State → Result
  | .i0, .b => execRes_0_B
  | .i0, .c => execRes_0_C
  | .i0, .d => execRes_0_D
  | .i0, .e => execRes_0_E
  | .i0, .h => execRes_0_H
  | .i0, .l => execRes_0_L
  | .i0, .a => execRes_0_A
  | .i1, .b => execRes_1_B
  | .i1, .c => execRes_1_C
  | .i1, .d => execRes_1_D
  | .i1, .e => execRes_1_E
  | .i1, .h => execRes_1_H
  | .i1, .l => execRes_1_L
  | .i1, .a => execRes_1_A
  | .i2, .b => execRes_2_B
  | .i2, .c => execRes_2_C
  | .i2, .d => execRes_2_D
  | .i2, .e => execRes_2_E
  | .i2, .h => execRes_2_H
  | .i2, .l => execRes_2_L
  | .i2, .a => execRes_2_A
  | .i3, .b => execRes_3_B
  | .i3, .c => execRes_3_C
  | .i3, .d => execRes_3_D
  | .i3, .e => execRes_3_E
  | .i3, .h => execRes_3_H
  | .i3, .l => execRes_3_L
  | .i3, .a => execRes_3_A
  | .i4, .b => execRes_4_B
  | .i4, .c => execRes_4_C
  | .i4, .d => execRes_4_D
  | .i4, .e => execRes_4_E
  | .i4, .h => execRes_4_H
  | .i4, .l => execRes_4_L
  | .i4, .a => execRes_4_A
  | .i5, .b => execRes_5_B
  | .i5, .c => execRes_5_C
  | .i5, .d => execRes_5_D
  | .i5, .e => execRes_5_E
  | .i5, .h => execRes_5_H
  | .i5, .l => execRes_5_L
  | .i5, .a => execRes_5_A
  | .i6, .b => execRes_6_B
  | .i6, .c => execRes_6_C
  | .i6, .d => execRes_6_D
  | .i6, .e => execRes_6_E
  | .i6, .h => execRes_6_H
  | .i6, .l => execRes_6_L
  | .i6, .a => execRes_6_A
  | .i7, .b => execRes_7_B
  | .i7, .c => execRes_7_C
  | .i7, .d => execRes_7_D
  | .i7, .e => execRes_7_E
  | .i7, .h => execRes_7_H
  | .i7, .l => execRes_7_L
  | .i7, .a => execRes_7_A

/-- The meanings of the rows `RES b3,[HL]` (30_encoding.md R88). -/
def extResAtHL : Idx3 → State → Result
  | .i0 => execRes_0_atHL
  | .i1 => execRes_1_atHL
  | .i2 => execRes_2_atHL
  | .i3 => execRes_3_atHL
  | .i4 => execRes_4_atHL
  | .i5 => execRes_5_atHL
  | .i6 => execRes_6_atHL
  | .i7 => execRes_7_atHL

/-- The meanings of the rows `SET b3,r8` (30_encoding.md R88). -/
def extSetBitReg : Idx3 → Reg → State → Result
  | .i0, .b => execSet_0_B
  | .i0, .c => execSet_0_C
  | .i0, .d => execSet_0_D
  | .i0, .e => execSet_0_E
  | .i0, .h => execSet_0_H
  | .i0, .l => execSet_0_L
  | .i0, .a => execSet_0_A
  | .i1, .b => execSet_1_B
  | .i1, .c => execSet_1_C
  | .i1, .d => execSet_1_D
  | .i1, .e => execSet_1_E
  | .i1, .h => execSet_1_H
  | .i1, .l => execSet_1_L
  | .i1, .a => execSet_1_A
  | .i2, .b => execSet_2_B
  | .i2, .c => execSet_2_C
  | .i2, .d => execSet_2_D
  | .i2, .e => execSet_2_E
  | .i2, .h => execSet_2_H
  | .i2, .l => execSet_2_L
  | .i2, .a => execSet_2_A
  | .i3, .b => execSet_3_B
  | .i3, .c => execSet_3_C
  | .i3, .d => execSet_3_D
  | .i3, .e => execSet_3_E
  | .i3, .h => execSet_3_H
  | .i3, .l => execSet_3_L
  | .i3, .a => execSet_3_A
  | .i4, .b => execSet_4_B
  | .i4, .c => execSet_4_C
  | .i4, .d => execSet_4_D
  | .i4, .e => execSet_4_E
  | .i4, .h => execSet_4_H
  | .i4, .l => execSet_4_L
  | .i4, .a => execSet_4_A
  | .i5, .b => execSet_5_B
  | .i5, .c => execSet_5_C
  | .i5, .d => execSet_5_D
  | .i5, .e => execSet_5_E
  | .i5, .h => execSet_5_H
  | .i5, .l => execSet_5_L
  | .i5, .a => execSet_5_A
  | .i6, .b => execSet_6_B
  | .i6, .c => execSet_6_C
  | .i6, .d => execSet_6_D
  | .i6, .e => execSet_6_E
  | .i6, .h => execSet_6_H
  | .i6, .l => execSet_6_L
  | .i6, .a => execSet_6_A
  | .i7, .b => execSet_7_B
  | .i7, .c => execSet_7_C
  | .i7, .d => execSet_7_D
  | .i7, .e => execSet_7_E
  | .i7, .h => execSet_7_H
  | .i7, .l => execSet_7_L
  | .i7, .a => execSet_7_A

/-- The meanings of the rows `SET b3,[HL]` (30_encoding.md R88). -/
def extSetBitAtHL : Idx3 → State → Result
  | .i0 => execSet_0_atHL
  | .i1 => execSet_1_atHL
  | .i2 => execSet_2_atHL
  | .i3 => execSet_3_atHL
  | .i4 => execSet_4_atHL
  | .i5 => execSet_5_atHL
  | .i6 => execSet_6_atHL
  | .i7 => execSet_7_atHL

/-- The meaning of the second byte `b` after 0xCB, by the form the extended decoder reads (30_encoding.md R88); no byte is
illegal. -/
def execExtended (b : Byte) : State → Result :=
  match extForm b with
  | .rotReg op r => extRotReg op r
  | .rotAtHL op => extRotAtHL op
  | .bitReg i r => extBitReg i r
  | .bitAtHL i => extBitAtHL i
  | .resReg i r => extResReg i r
  | .resAtHL i => extResAtHL i
  | .setBitReg i r => extSetBitReg i r
  | .setBitAtHL i => extSetBitAtHL i

/-- `PREFIX` (47_system.md R275): run <- PrefixPending, the second byte is fetched, run <- Fetching, and its
instruction runs, all in one step. -/
def execPrefix_CB (s : State) : Result :=
  let (b2, s) := s.runProg ({ s with run := .prefixPending }.fetch8 fun b2 s => .done (b2, { s with run := .fetching }))
  execExtended b2 s

end Sys2Proof.Machine
end

