-- ==== Sys2Proof/Machine/Stack.lean ====
section
/-! DEFINITION. PUSH and POP (46_stack.md R260 to R263): the effect of each form, then one meaning per
instruction. -/

namespace Sys2Proof.Machine

/-- `PUSH r16stk` (46_stack.md R260). -/
def push (r : R16Stk) (s : State) : BusProg State := s.push16 (s.r16stk r) fun s => s.finish 4

/-- `POP r16stk` (46_stack.md R261), and `POP AF`, whose write masks the low nibble of F (R262). -/
def pop (r : R16Stk) (s : State) : BusProg State :=
  s.pop16 fun w s => (s.setR16stk r w).finish 3

/-- `POP BC` (46_stack.md R261). -/
def execPop_BC (s : State) : Result := .next (onFlat (pop .bc) s)

/-- `PUSH BC` (46_stack.md R260). -/
def execPush_BC (s : State) : Result := .next (onFlat (push .bc) s)

/-- `POP DE` (46_stack.md R261). -/
def execPop_DE (s : State) : Result := .next (onFlat (pop .de) s)

/-- `PUSH DE` (46_stack.md R260). -/
def execPush_DE (s : State) : Result := .next (onFlat (push .de) s)

/-- `POP HL` (46_stack.md R261). -/
def execPop_HL (s : State) : Result := .next (onFlat (pop .hl) s)

/-- `PUSH HL` (46_stack.md R260). -/
def execPush_HL (s : State) : Result := .next (onFlat (push .hl) s)

/-- `POP AF` (46_stack.md R262). -/
def execPop_AF (s : State) : Result := .next (onFlat (pop .af) s)

/-- `PUSH AF` (46_stack.md R260). -/
def execPush_AF (s : State) : Result := .next (onFlat (push .af) s)

end Sys2Proof.Machine
end

