-- ==== Sys2Proof/Machine/System.lean ====
section
/-! DEFINITION. The system instructions NOP, HALT, STOP, DI, EI and the eleven illegal opcodes
(47_system.md R270 to R276): the effect of each, then one meaning per instruction. -/

namespace Sys2Proof.Machine

/-- `NOP` (47_system.md R270). -/
def nop (s : State) : BusProg State := s.finish 1

/-- `HALT` (47_system.md R271). -/
def halt (s : State) : BusProg State := .done ({ s with run := .halted }.report .halted 1)

/-- `STOP` (47_system.md R272): the pad byte is fetched and discarded. -/
def stop (s : State) : BusProg State :=
  s.fetch8 fun _ s => .done ({ s with run := .stopped }.report .stopped 1)

/-- `DI` (47_system.md R273). -/
def di (s : State) : BusProg State := { s with ime := false, imePending := false }.finish 1

/-- `EI` (47_system.md R274): IME itself is set at the end of the next instruction (R265 part 5). -/
def ei (s : State) : BusProg State := { s with imePending := if s.ime then s.imePending else true }.finish 1

/-- An illegal opcode `b` (47_system.md R276): the exception is raised. -/
def illegal (b : Byte) (s : State) : BusProg State := .done (s.raiseIllegalOpcode b)

/-- `NOP` (47_system.md R270). -/
def execNop (s : State) : Result := .next (onFlat nop s)

/-- `STOP` (47_system.md R272). -/
def execStop (s : State) : Result := .next (onFlat stop s)

/-- `HALT` (47_system.md R271). -/
def execHalt (s : State) : Result := .next (onFlat halt s)

/-- `ILLEGAL 0xD3` (47_system.md R276). -/
def execIllegal_0xD3 (s : State) : Result := .next (onFlat (illegal 0xD3) s)

/-- `ILLEGAL 0xDB` (47_system.md R276). -/
def execIllegal_0xDB (s : State) : Result := .next (onFlat (illegal 0xDB) s)

/-- `ILLEGAL 0xDD` (47_system.md R276). -/
def execIllegal_0xDD (s : State) : Result := .next (onFlat (illegal 0xDD) s)

/-- `ILLEGAL 0xE3` (47_system.md R276). -/
def execIllegal_0xE3 (s : State) : Result := .next (onFlat (illegal 0xE3) s)

/-- `ILLEGAL 0xE4` (47_system.md R276). -/
def execIllegal_0xE4 (s : State) : Result := .next (onFlat (illegal 0xE4) s)

/-- `ILLEGAL 0xEB` (47_system.md R276). -/
def execIllegal_0xEB (s : State) : Result := .next (onFlat (illegal 0xEB) s)

/-- `ILLEGAL 0xEC` (47_system.md R276). -/
def execIllegal_0xEC (s : State) : Result := .next (onFlat (illegal 0xEC) s)

/-- `ILLEGAL 0xED` (47_system.md R276). -/
def execIllegal_0xED (s : State) : Result := .next (onFlat (illegal 0xED) s)

/-- `DI` (47_system.md R273). -/
def execDi (s : State) : Result := .next (onFlat di s)

/-- `ILLEGAL 0xF4` (47_system.md R276). -/
def execIllegal_0xF4 (s : State) : Result := .next (onFlat (illegal 0xF4) s)

/-- `EI` (47_system.md R274). -/
def execEi (s : State) : Result := .next (onFlat ei s)

/-- `ILLEGAL 0xFC` (47_system.md R276). -/
def execIllegal_0xFC (s : State) : Result := .next (onFlat (illegal 0xFC) s)

/-- `ILLEGAL 0xFD` (47_system.md R276). -/
def execIllegal_0xFD (s : State) : Result := .next (onFlat (illegal 0xFD) s)

end Sys2Proof.Machine
end

