-- ==== Sys2Proof/Machine/Step.lean ====
section
/-! DEFINITION. The step of the machine (47_system.md R265, R266). -/

namespace Sys2Proof.Machine

/-- `ExecuteOne` (47_system.md R266). -/
def executeOne (s : State) : Result := executeOneWith exec s

/-- One step (47_system.md R265) with the default of each parameter. -/
def step (s : State) : Host.Outcome State Fault Refusal := stepWith Config.intVector exec s

/-- `s` with the instruction whose bits are `w` (as the opcode table numbers them, `tableBytes`) stored at PC, where the
next step fetches, and ready to fetch it. It stands for a program loaded from outside the machine (log 12). -/
def State.withFetchWord (s : State) (nbits w : Nat) : State :=
  (s.place s.pc (tableBytes nbits w)).readyToFetch

end Sys2Proof.Machine
end

