-- ==== Sys2Proof/Machine/Platform.lean ====
section
/-! DEFINITION. The core for any value of its three parameters (00_scope.md R3; 20_memory.md R58; log 8, log 9): the
effect of every form as a program of bus accesses, and the step on any bus with any vector table. The machine of
Machine/Step.lean is the one of the default parameters. -/

namespace Sys2Proof.Machine

/-- The effect of a form of the extended table. -/
def extProg : ExtForm → State → BusProg State
  | .rotReg op r => rotReg op r
  | .rotAtHL op => rotAtHL op
  | .bitReg i r => bitReg i r
  | .bitAtHL i => bitAtHL i
  | .resReg i r => resReg i r
  | .resAtHL i => resAtHL i
  | .setBitReg i r => setBitReg i r
  | .setBitAtHL i => setBitAtHL i

/-- The effect of the prefix (47_system.md R275): the second byte is fetched and its form runs, all in one step. -/
def prefixed (s : State) : BusProg State :=
  { s with run := .prefixPending }.fetch8 fun b2 s => extProg (extForm b2) { s with run := .fetching }

/-- The effect of a form, from the state with PC past its opcode bytes. -/
def formProg : Form → State → BusProg State
  | .nop => nop
  | .ldAtImm16SP => ldAtImm16SP
  | .stop => stop
  | .jr => jr
  | .jrCond cc => jrCond cc
  | .ldR16Imm r => ldR16Imm r
  | .addHLR16 r => addHLR16 r
  | .ldMemA m => ldMemA m
  | .ldAMem m => ldAMem m
  | .incR16 r => incR16 r
  | .decR16 r => decR16 r
  | .incReg r => incReg r
  | .incAtHL => incAtHL
  | .decReg r => decReg r
  | .decAtHL => decAtHL
  | .ldRegImm r => ldRegImm r
  | .ldAtHLImm => ldAtHLImm
  | .rlca => rotA .rlc
  | .rrca => rotA .rrc
  | .rla => rotA .rl
  | .rra => rotA .rr
  | .daa => daa
  | .cpl => cpl
  | .scf => scf
  | .ccf => ccf
  | .ldRegReg dst src => ldRegReg dst src
  | .ldRegAtHL dst => ldRegAtHL dst
  | .ldAtHLReg src => ldAtHLReg src
  | .halt => halt
  | .aluReg op r => aluReg op r
  | .aluAtHL op => aluAtHL op
  | .retCond cc => retCond cc
  | .ldhAtImmA => ldhAtImmA
  | .addSPe8 => addSPe8
  | .ldhAAtImm => ldhAAtImm
  | .ldHLSPe8 => ldHLSPe8
  | .pop r => pop r
  | .ret => ret
  | .reti => reti
  | .jpHL => jpHL
  | .ldSPHL => ldSPHL
  | .jpCond cc => jpCond cc
  | .ldhAtCA => ldhAtCA
  | .ldAtImm16A => ldAtImm16A
  | .ldhAAtC => ldhAAtC
  | .ldAAtImm16 => ldAAtImm16
  | .jp => jp
  | .prefixCB => prefixed
  | .di => di
  | .ei => ei
  | .callCond cc => callCond cc
  | .push r => push r
  | .call => call
  | .aluImm op => aluImm op
  | .rst t => rst t
  | .illegal x => illegal x.byte
  | .ext e => extProg e

/-- `ExecuteOne` (47_system.md R266): the opcode is fetched and decoded, and its form runs. -/
def executeProg (s : State) : BusProg State := s.fetch8 fun b s => formProg (baseForm b) s

/-- A program on a platform, from the trace of `s`: the core it ends in, with the trace it leaves, and the platform. The
field `mem` of the core plays no part: memory is the platform's. -/
def State.runOn {σ : Type} (s : State) (β : Bus σ) (P : BusProg State) (p : σ) : State × σ :=
  let r := P.runOn β p s.bus
  ({ r.1 with bus := r.2.2 }, r.2.1)

/-- `Step()` (47_system.md R265) for any parameters: `IE` and `IF` are sampled by `MemPeek` of the platform
(60_exceptions.md R304), every access goes to its bus, and a dispatch goes to the vector of its table. -/
def stepOn {σ : Type} (P : Params σ) (s : State) (p : σ) : Host.Outcome (State × σ) Fault Refusal :=
  let s := { s with bus := [] }
  match s.action (pendingIn (P.bus.peek p)) with
  | .idle st n => .next (s.report st n, p)
  | .fault b => .fault (.illegalOpcode b)
  | .dispatch i => .next (s.runOn P.bus (dispatch P.intVector i s.awake) p)
  | .execute =>
    let (t, q) := s.runOn P.bus (executeProg s.awake) p
    .next (t.consumeImePending s.imePending, q)

/-- A step after the outside agents of a platform have acted on it (20_memory.md R66, 00_scope.md R4). -/
def envStepOn {σ : Type} (P : Params σ) (agents : σ → σ) (s : State) (p : σ) : Host.Outcome (State × σ) Fault Refusal :=
  stepOn P s (agents p)

/-- The reset event on a platform (70_reset_and_hazards.md R340): the registers of the parameter RESET_REGS; the platform
is not touched by the core. -/
def resetEventOn {σ : Type} (P : Params σ) (s : State) (p : σ) : State × σ := (s.resetEvent P.resetRegs, p)

/-- The machine of the parameters `P`, its platform starting in `p`. -/
def coreOn {σ : Type} (P : Params σ) (p : σ) : Host.Core :=
  { State := State × σ, Fault := Fault, Refusal := Refusal
    step := fun x => stepOn P x.1 x.2
    reset := (State.resetWith P.resetRegs [], p) }

/-- The default of each parameter: plain storage (log 8), the vector table of R318 (log 9), the reset values of log 1. -/
def defaultParams : Params Memory :=
  { bus := flatBus, intVector := Config.intVector, resetRegs := Config.resetRegs }

/-- The accesses of a trace performed on a platform, in order. -/
def performOn {σ : Type} (β : Bus σ) (p : σ) : List BusAccess → σ
  | [] => p
  | .read a :: rest => performOn β (β.read p a).2 rest
  | .write a v :: rest => performOn β (β.write p a v) rest

/-- The bytes that a platform answers to the reads of a trace, in order. -/
def answersOn {σ : Type} (β : Bus σ) (p : σ) : List BusAccess → List Byte
  | [] => []
  | .read a :: rest => (β.read p a).1 :: answersOn β (β.read p a).2 rest
  | .write a v :: rest => answersOn β (β.write p a v) rest

/-- What the core requires of a platform (20_memory.md R58): reads of 0xFF0F and 0xFFFF return IF and IE, of which
`MemPeek` is a view, and writing an acknowledged IF back clears the bit acknowledged (60_exceptions.md R305). -/
def busAdmissible {σ : Type} (β : Bus σ) : Prop :=
  (∀ p, (β.read p addrIF).1 = β.peek p addrIF ∧ (β.read p addrIE).1 = β.peek p addrIE) ∧
  ∀ p (i : Fin 5), let r := β.read p addrIF
    (β.peek (β.write r.2 addrIF (acknowledged r.1 i)) addrIF).getLsbD i.val = false

end Sys2Proof.Machine
end

