-- ==== Sys2Proof/Machine/Driver.lean ====
section
/-! DEFINITION. What stands around the core: steps with interrupt requests between them (20_memory.md R66), the
caller's loop (47_system.md R268), a loaded start (70_reset_and_hazards.md R350) and the harness (R349). -/

namespace Sys2Proof.Machine

/-- One step after an outside agent has requested the interrupt types `m` (20_memory.md R66, 60_exceptions.md R304:
`Pending` is evaluated after every external agent has acted). -/
def envStep (m : BitVec 5) (s : State) : Result := step (s.requestInterrupts m)

/-- A run under a schedule of requests, one entry a step, stopping at the first fault or refusal (log 7). -/
def envRun : List (BitVec 5) → State → Result
  | [], s => .next s
  | m :: ms, s =>
    match envStep m s with
    | .next t => envRun ms t
    | .fault r => .fault r
    | .refused r => .refused r

/-- The caller's loop (47_system.md R268): steps until the cycle budget is consumed; a step is never split, so the total
may overshoot; a step of 0 cycles (`Stopped`, `Faulted`) ends the loop. Every other step costs at least one cycle, so
`fuel = budget` suffices. -/
def runLoop : Nat → Nat → State → State
  | 0, _, s => s
  | fuel + 1, budget, s =>
    if budget = 0 then s
    else
      match step s with
      | .next t => if t.cycles = 0 then t else runLoop fuel (budget - t.cycles) t
      | .fault _ => s
      | .refused _ => s

/-- Steps from `s` until `budget` machine cycles are consumed or a terminal status ends the loop. -/
def runBudget (budget : Nat) (s : State) : State := runLoop budget budget s

/-- A snapshot of the conformance record (70_reset_and_hazards.md R349). -/
structure Snapshot where
  /-- register A -/
  a : Byte
  /-- register B -/
  b : Byte
  /-- register C -/
  c : Byte
  /-- register D -/
  d : Byte
  /-- register E -/
  e : Byte
  /-- register F -/
  f : Byte
  /-- register H -/
  h : Byte
  /-- register L -/
  l : Byte
  /-- the program counter -/
  pc : Word
  /-- the stack pointer -/
  sp : Word
  /-- the listed memory cells -/
  ram : List (Word × Byte)
  deriving DecidableEq, Repr

/-- The memory that lists the cells of a record; other cells read as an unlisted address does (R349; log 2). -/
def loadCells : List (Word × Byte) → Memory
  | [] => []
  | (a, v) :: rest => Memory.write (loadCells rest) a.toNat v

/-- The loaded state of 70_reset_and_hazards.md R350: IME = 0, ime_pending = 0, `Fetching`; a record whose F has a nonzero
low nibble is not admitted. Of two entries for one address the first holds (the record does not say). -/
def Snapshot.load (r : Snapshot) : Option State :=
  if r.f &&& 0x0F = 0 then
    some
      { a := r.a, f := r.f, b := r.b, c := r.c, d := r.d, e := r.e, h := r.h, l := r.l
        sp := r.sp, pc := r.pc, ime := false, imePending := false, run := .fetching
        mem := loadCells r.ram, status := .ran, cycles := 0, bus := [] }
  else none

/-- Every register and every listed cell matches, the flags byte among them (70_reset_and_hazards.md R349). -/
def Snapshot.accepts (r : Snapshot) (s : State) : Bool :=
  s.a == r.a && s.readF == r.f && s.b == r.b && s.c == r.c && s.d == r.d && s.e == r.e && s.h == r.h
    && s.l == r.l && s.pc == r.pc && s.sp == r.sp && r.ram.all (fun x => s.peek x.1 == x.2)

/-- The harness on one record (70_reset_and_hazards.md R349): the initial state is loaded, steps run until as many machine
cycles as the record's `cycles` list is long are consumed, and the final snapshot must match. DESIGN CHOICE (log 14):
for a record whose initial F the loader refuses (R350; 93_implementation_defined.md U11) the spec gives the harness no
result; it answers `false` here, as for a test that fails. -/
def harness (initial final : Snapshot) (cycles : Nat) : Bool :=
  match initial.load with
  | some s => final.accepts (runBudget cycles s)
  | none => false

end Sys2Proof.Machine
end

