-- ==== Sys2Proof/Safety.lean ====
section
/-! DEFINITION. The invariant of the machine and the terms that claims use of its runs. -/

namespace Sys2Proof.Machine

/-- What holds of every state between steps: memory in its canonical form, the low nibble of F zero (10_state.md R23),
`ime_pending = 1` implies `IME = 0` (R32), and `run` is never `PrefixPending` (R33). -/
def State.Inv (s : State) : Prop :=
  Memory.wf s.mem = true ∧ s.f &&& 0x0F = 0 ∧ (s.imePending = true → s.ime = false) ∧ s.run ≠ .prefixPending

/-- A terminal run state: only reset leaves it (10_state.md R33). A run that reaches `Stopped` is stuck, not finished
(47_system.md R267, R272). -/
def State.terminal (s : State) : Bool :=
  match s.run with
  | .stopped => true
  | .faulted _ => true
  | _ => false

/-- The situation of the hardware's HALT bug: the next instruction (of a fetching core, or of a halted one that wakes) is
HALT, executed with IME = 0 while an enabled interrupt is requested (70_reset_and_hazards.md R343,
93_implementation_defined.md U5). The model runs HALT as 47_system.md R271 says; the hardware differs, so a claim about a run assumes that this never holds in it (log 6). -/
def State.haltBug (s : State) : Bool :=
  (decide (s.run = .fetching) || decide (s.run = .halted)) && !s.ime && decide (s.pending ≠ 0) &&
    decide (decodeBase (s.peek s.pc) = .halt)

/-- A run under a schedule of requests in which no step starts in a terminal state or in the HALT bug's situation
(`haltBug` is asked after the requests have arrived, when the step samples them). -/
def safeRun : List (BitVec 5) → State → Bool
  | [], _ => true
  | m :: ms, s =>
    !s.terminal && !(s.requestInterrupts m).haltBug &&
      match envStep m s with
      | .next t => safeRun ms t
      | _ => false

/-- `s` with its seven general registers A, B, C, D, E, H, L replaced by those of `t`: `t = s.withRegsOf t` says that
nothing but a general register differs. -/
def State.withRegsOf (s t : State) : State :=
  { s with a := t.a, b := t.b, c := t.c, d := t.d, e := t.e, h := t.h, l := t.l }

/-- The little-endian word at PC, `{second byte, first byte}` (30_encoding.md R83). -/
def State.immWord (s : State) : Word := s.peek (s.pc + 1) ++ s.peek s.pc

/-- The byte at `a` and the byte after it as a little-endian word (20_memory.md R52). -/
def State.wordAt (s : State) (a : Word) : Word := s.peek (a + 1) ++ s.peek a

/-- `s` once a one-byte operand has been fetched (20_memory.md R60). -/
def State.pastByte (s : State) : State := { s with pc := s.pc + 1, bus := s.bus ++ [.read s.pc] }

/-- `s` once a two-byte operand has been fetched, low byte first (20_memory.md R60). -/
def State.pastWord (s : State) : State :=
  { s with pc := s.pc + 2, bus := s.bus ++ [.read s.pc, .read (s.pc + 1)] }

/-- `s` with what a step reports for an instruction of `n` machine cycles (47_system.md R267). -/
def State.reported (s : State) (n : Nat) : State := { s with status := .ran, cycles := n }

/-- The three operand forms of an operation on A (42_alu8.md section 3). -/
inductive AluForm where
  | reg (r : Reg)
  | atHL
  | imm
  deriving DecidableEq, Repr

/-- The instruction of a form. -/
def AluForm.instr (op : AluOp) : AluForm → Instr
  | .reg r => Row.aluReg op r
  | .atHL => Row.aluAtHL op
  | .imm => Row.aluImm op

/-- The opcode byte of a form (30_encoding.md R86, R87). -/
def AluForm.opcode (op : AluOp) : AluForm → Nat
  | .reg r => 0x80 + 8 * op.num + r.num
  | .atHL => 0x86 + 8 * op.num
  | .imm => 0xC6 + 8 * op.num

/-- The operand byte of a form. -/
def AluForm.operand (s : State) : AluForm → Byte
  | .reg r => s.reg r
  | .atHL => s.peek s.hl
  | .imm => s.peek s.pc

/-- `s` once the operand of a form has been read. -/
def AluForm.past (s : State) : AluForm → State
  | .reg _ => s
  | .atHL => { s with bus := s.bus ++ [.read s.hl] }
  | .imm => s.pastByte

/-- The machine cycles of a form (42_alu8.md section 3). -/
def AluForm.cycles : AluForm → Nat
  | .reg _ => 1
  | .atHL => 2
  | .imm => 2

/-- The result column of 44_rotate_shift_bit.md R204 over the integers: `v` the byte, `c` the carry-in as 0 or 1. -/
def rotValue (op : RotOp) (v c : Nat) : Nat :=
  match op with
  | .rlc => 2 * v % 256 + v / 128
  | .rrc => v / 2 + 128 * (v % 2)
  | .rl => 2 * v % 256 + c
  | .rr => v / 2 + 128 * c
  | .sla => 2 * v % 256
  | .sra => v / 2 + 128 * (v / 128)
  | .swap => 16 * (v % 16) + v / 16
  | .srl => v / 2

/-- The carry-out column of 44_rotate_shift_bit.md R204 over the integers. -/
def rotCarry (op : RotOp) (v : Nat) : Bool :=
  match op with
  | .rlc | .rl | .sla => decide (128 ≤ v)
  | .rrc | .rr | .sra | .srl => decide (v % 2 = 1)
  | .swap => false

/-- The four flags of a state, Z N H C. -/
def State.flags (s : State) : Bool × Bool × Bool × Bool := (s.flagZ, s.flagN, s.flagH, s.flagC)

/-- The memory after the writes of a list of bus accesses, in order (20_memory.md R63). -/
def replay (m : Memory) : List BusAccess → Memory
  | [] => m
  | .read _ :: rest => replay m rest
  | .write a v :: rest => replay (Memory.write m a.toNat v) rest

/-- The eleven illegal rows (30_encoding.md R89). -/
def illegalRows : List Instr :=
  [.illegal_0xD3, .illegal_0xDB, .illegal_0xDD, .illegal_0xE3, .illegal_0xE4, .illegal_0xEB,
    .illegal_0xEC, .illegal_0xED, .illegal_0xF4, .illegal_0xFC, .illegal_0xFD]

end Sys2Proof.Machine
end

