-- ==== Sys2Proof/Certificates/Slice0/Obligations.lean ====
section
/-! DEFINITION. The statements for the provers, in the order of OBLIGATIONS.json. -/

open Sys2Proof Sys2Proof.Machine

/-- For every instruction that is whole (every row but the bare prefix), every list of as many operand bytes as it
has and every byte string after it, decoding its opcode bytes, the operand bytes and the rest gives back exactly
that instruction, those operand bytes and that rest. (30_encoding.md section 1, 30_encoding.md section 3,
opcode_table.json) -/
def Obligations.DecodeEncodeRoundTrip : Prop :=
  ∀ (i : Instr) (operand rest : List Byte), wellFormedWith i operand = true →
    decode (encode i ++ operand ++ rest) = .ok (i, operand, rest)

/-- Whenever decoding a byte string gives an instruction, operand bytes and a rest, the instruction is whole, it has
that many operand bytes, and its opcode bytes, the operand bytes and the rest are the byte string; a byte string
of three or more bytes always decodes. (30_encoding.md section 1, 30_encoding.md section 3) -/
def Obligations.DecodeReadsBackEveryByte : Prop :=
  (∀ (bs operand rest : List Byte) (i : Instr), decode bs = .ok (i, operand, rest) →
    wellFormedWith i operand = true ∧ bs = encode i ++ operand ++ rest) ∧
  (∀ (bs : List Byte), 3 ≤ bs.length → ∃ i operand rest, decode bs = .ok (i, operand, rest))

/-- One opcode (or prefix and byte) of each family, written from the bit patterns of 30_encoding.md, decodes to its
instruction: LD B,C; LD BC,n16; ADD A,[HL]; ADD HL,SP; RLCA; RST 0x38; POP AF; HALT; an illegal byte; and, after
the prefix, RLC B, SWAP A, BIT 7,[HL], RES 0,A, SET 1,E. (30_encoding.md section 3, opcode_table.json) -/
def Obligations.SampleWordsDecode : Prop :=
  decodeBase 0b01000001 = .ld_B_C ∧ decodeBase 0b00000001 = .ld_BC_n16 ∧
  decodeBase 0b10000110 = .add_A_atHL ∧ decodeBase 0b00111001 = .add_HL_SP ∧
  decodeBase 0b00000111 = .rlca ∧ decodeBase 0b11111111 = .rst_0x38 ∧ decodeBase 0b11110001 = .pop_AF ∧
  decodeBase 0b01110110 = .halt ∧ decodeBase 0b11001011 = .prefix_CB ∧ decodeBase 0b11010011 = .illegal_0xD3 ∧
  decodeExt 0b00000000 = .rlc_B ∧ decodeExt 0b00110111 = .swap_A ∧ decodeExt 0b01111110 = .bit_7_atHL ∧
  decodeExt 0b10000111 = .res_0_A ∧ decodeExt 0b11001011 = .set_1_E

/-- An opcode byte decodes to one of the eleven illegal rows exactly when it is one of D3 DB DD E3 E4 EB EC ED F4 FC
FD, and then its meaning answers a next state in Faulted(b) with that byte, status Faulted(b) and 0 cycles (the
effect is R276, R301 and decision D14 of the spec; that it is a next state, and the fault comes with a later
step, is the model choice of log 4); in field terms these are x = 3, z = 3, y in 2 to 5; x = 3, z = 4, y in 4 to
7; x = 3, z = 5, q = 1, p in 1 to 3; no byte after the prefix is illegal, and no operand byte is looked at.
(30_encoding.md R89, 47_system.md R276, 60_exceptions.md R301, 92_eei_decisions.md D14) -/
def Obligations.ElevenBytesAreIllegal : Prop :=
  (∀ b : Byte, decodeBase b ∈ illegalRows ↔
    b ∈ [0xD3, 0xDB, 0xDD, 0xE3, 0xE4, 0xEB, 0xEC, 0xED, 0xF4, 0xFC, 0xFD]) ∧
  (∀ b : Byte, decodeBase b ∈ illegalRows ↔
    fieldX b = 3 ∧ ((fieldZ b = 3 ∧ fieldY b ∈ [2, 3, 4, 5]) ∨ (fieldZ b = 4 ∧ fieldY b ∈ [4, 5, 6, 7]) ∨
      (fieldZ b = 5 ∧ fieldQ b = 1 ∧ fieldP b ∈ [1, 2, 3]))) ∧
  (∀ b : Byte, decodeExt b ∉ illegalRows) ∧
  (∀ (b : Byte) (s : State), decodeBase b ∈ illegalRows →
    exec (decodeBase b) s = .next { s with run := .faulted b, status := .faulted b, cycles := 0 }) ∧
  (∀ (i : Instr) (n : Byte) (operand rest : List Byte), wellFormedWith i (n :: operand) = true →
    decode (encode i ++ (n :: operand) ++ rest) = .ok (i, n :: operand, rest))

/-- When a fetching core takes no interrupt at this boundary and the three bytes at PC decode to a whole instruction
i, the step is exec of i at the state with PC past the opcode bytes (one, or two for an extended instruction,
each read at PC on the bus), finished by the ime_pending rule of R265 part 5. (47_system.md section 1,
30_encoding.md section 3) -/
def Obligations.StepRunsTheDecodedInstruction : Prop :=
  ∀ (s : State) (i : Instr) (operand rest : List Byte),
    s.run = .fetching → (s.ime = false ∨ s.pending = 0) →
    decode [s.peek s.pc, s.peek (s.pc + 1), s.peek (s.pc + 2)] = .ok (i, operand, rest) →
    step s = finishInstruction s.imePending
      (exec i { s with
        pc := s.pc + BitVec.ofNat 16 (encode i).length
        bus := (List.range (encode i).length).map fun k => .read (s.pc + BitVec.ofNat 16 k) })

/-- From every state whose memory is in canonical form, whose F has a zero low nibble, in which ime_pending = 1
implies IME = 0 and whose run state is not PrefixPending, a step that answers a next state, whether or not an
outside agent requests interrupts before it, gives a state with the same four properties. (10_state.md section
3, 10_state.md section 6, 20_memory.md section 2) -/
def Obligations.StepKeepsInvariant : Prop :=
  ∀ (s t : State), s.Inv →
    (step s = .next t → t.Inv) ∧ (∀ m : BitVec 5, envStep m s = .next t → t.Inv)

/-- State.reset has the machine invariant; so has the state after reset for every value of RESET_REGS and every
memory in canonical form, the reset event from any state whose memory is in canonical form, and every state that
a conformance record loads. (10_state.md section 7, 70_reset_and_hazards.md section 1) -/
def Obligations.ResetAndLoadedStatesHaveInvariant : Prop :=
  State.reset.Inv ∧
  (∀ (r : ResetRegs) (m : Memory), Memory.wf m = true → (State.resetWith r m).Inv) ∧
  (∀ (r : ResetRegs) (s : State), s.Inv → (s.resetEvent r).Inv) ∧
  (∀ (r : Snapshot) (s : State), r.load = some s → s.Inv)

/-- For each of the 512 instructions and every state, exec answers a next state; its reported cycle count is 1 to 6,
except that of the eleven illegal rows, which is 0. That an illegal row answers a next state, and not the fault
to which R267 maps Faulted(b), is the model choice of log 4 (DESIGN CHOICE). (47_system.md section 1,
70_reset_and_hazards.md section 4) -/
def Obligations.EveryInstructionCompletes : Prop :=
  ∀ (i : Instr) (s : State), ∃ t, exec i s = .next t ∧
    (i ∉ illegalRows → 1 ≤ t.cycles ∧ t.cycles ≤ 6) ∧ (i ∈ illegalRows → t.cycles = 0)

/-- In run state Faulted(b) a step answers the fault illegalOpcode b (the model choice of log 4, after 47_system.md
R267); in every other state it answers a next state, and it never refuses. That Stopped answers a next state is
DEDUCED (log 5: R267 names no outcome for it), and so is that PrefixPending, which no step leaves, does (log
13). (47_system.md section 1 (R265, R267; the outcomes of Faulted, Stopped and PrefixPending are the model
choices of log 4, log 5 and log 13)) -/
def Obligations.StepFaultsExactlyWhenFaulted : Prop :=
  ∀ s : State,
    (∀ b, s.run = .faulted b → step s = .fault (.illegalOpcode b)) ∧
    ((∀ b, s.run ≠ .faulted b) → ∃ t, step s = .next t)

/-- Whatever instruction other than DI, EI and RETI executes (the prefix with any second byte among them), IME and
ime_pending are as before it. (10_state.md section 6, 47_system.md section 2) -/
def Obligations.OnlyDiEiRetiWriteIme : Prop :=
  ∀ (i : Instr) (s t : State), i ∉ [Instr.di, .ei, .reti] → exec i s = .next t →
    t.ime = s.ime ∧ t.imePending = s.imePending

/-- From run state Fetching every instruction other than HALT, STOP and the eleven illegal rows leaves it Fetching,
the prefix included; HALT gives Halted, STOP gives Stopped, and the illegal row of the byte b gives Faulted(b)
(decision D14 of the spec; that it is a next state is the model choice of log 4). (10_state.md section 6 (R33)) -/
def Obligations.OnlyHaltStopIllegalLeaveFetching : Prop :=
  ∀ (i : Instr) (s t : State), s.run = .fetching → exec i s = .next t →
    (t.run ≠ .fetching ↔ i = .halt ∨ i = .stop ∨ i ∈ illegalRows) ∧
    (i = .halt → t.run = .halted) ∧ (i = .stop → t.run = .stopped) ∧
    (∀ b : Byte, i ∈ illegalRows → encode i = [b] → t.run = .faulted b)

/-- An instruction that is not LD SP,n16, LD SP,HL, INC SP, DEC SP, ADD SP,e8, a PUSH, a POP, a CALL, a RET, RETI or
an RST leaves SP as it is. (10_state.md section 4 (R24)) -/
def Obligations.OnlyListedInstructionsWriteSP : Prop :=
  ∀ (i : Instr) (s t : State), exec i s = .next t → t.sp ≠ s.sp →
    i ∈ [Instr.ld_SP_n16, .ld_SP_HL, .inc_SP, .dec_SP, .add_SP_e8, .reti, .ret, .call_n16] ∨
    (∃ r, i = Row.push r ∨ i = Row.pop r) ∨ (∃ cc, i = Row.callCond cc ∨ i = Row.retCond cc) ∨
    (∃ n, i = Row.rst n)

/-- Whatever a step does (an instruction, the prefix, an interrupt dispatch, an idle or terminal step), the memory
after it is the memory before it with exactly the writes of its bus trace performed in order: no byte changes
without a write on the bus, and reads and peeks change nothing. For every platform, vector table and state: the
platform after a step is the platform before it with exactly the accesses of the trace performed in order; and
the core sees no more of a platform than its answers: another platform that shows the same pending set at the
start and answers the reads of that trace with the same bytes gives the same core state, with the same trace.
The core on the default parameters (plain storage, the table 0x0040 + 8 * i; log 8, log 9), its platform being
the memory, does what the step of the machine does. (00_scope.md R3, 20_memory.md section 2 (R56, R58),
20_memory.md section 9, 92_eei_decisions.md D18) -/
def Obligations.StepReachesMemoryThroughTheBusAlone : Prop :=
  (∀ (s t : State), step s = .next t → t.mem = replay s.mem t.bus) ∧
  (∀ (σ : Type) (P : Params σ) (s t : State) (p q : σ), stepOn P s p = .next (t, q) →
    q = performOn P.bus p t.bus ∧ t.mem = s.mem) ∧
  (∀ (σ τ : Type) (P : Params σ) (Q : Params τ) (s t : State) (p p' : σ) (q : τ), stepOn P s p = .next (t, p') →
    Q.intVector = P.intVector → pendingIn (Q.bus.peek q) = pendingIn (P.bus.peek p) →
    answersOn Q.bus q t.bus = answersOn P.bus p t.bus →
    stepOn Q s q = .next (t, performOn Q.bus q t.bus)) ∧
  (∀ s : State, stepOn defaultParams s s.mem =
    match step s with
    | .next t => .next ({ t with mem := s.mem }, t.mem)
    | .fault r => .fault r
    | .refused r => .refused r)

/-- After MemWrite(a, v) the byte at a reads v and every other byte reads as before; MemRead gives the byte last
written and changes no byte; each is one bus access; a write keeps the canonical form of memory, and two
memories in canonical form that read alike are equal. (20_memory.md section 2 (R51, R56)) -/
def Obligations.WriteChangesOneByte : Prop :=
  (∀ (s : State) (a x : Word) (v : Byte), (s.memWrite a v).peek x = if x = a then v else s.peek x) ∧
  (∀ (s : State) (a : Word) (v : Byte), s.memWrite a v =
    { s with mem := (s.memWrite a v).mem, bus := s.bus ++ [.write a v] }) ∧
  (∀ (s : State) (a : Word), s.memRead a = (s.peek a, { s with bus := s.bus ++ [.read a] })) ∧
  (∀ (s : State) (a : Word) (v : Byte), Memory.wf s.mem = true → Memory.wf (s.memWrite a v).mem = true) ∧
  (∀ (m n : Memory), Memory.wf m = true → Memory.wf n = true →
    (∀ x : Word, Memory.read m x.toNat = Memory.read n x.toNat) → m = n)

/-- Each pair reads as its two registers, the high one first, F with a zero low nibble; writing a pair writes both
halves and nothing else, and a write of AF discards bits 3 to 0. After a write of Z, N, H and C they read back
as written from bits 7, 6, 5 and 4 of F, the low nibble of F is zero, and nothing but F changes; a write of F as
a byte is masked with 0xF0 and F reads masked. (10_state.md section 2 (R21), 10_state.md section 3 (R22, R23)) -/
def Obligations.RegisterViewsAndFlagWrites : Prop :=
  (∀ (s : State) (w : Word),
    (s.bc = s.b ++ s.c ∧ s.de = s.d ++ s.e ∧ s.hl = s.h ++ s.l ∧ s.af = s.a ++ (s.f &&& 0xF0)) ∧
    s.setBC w = { s with b := w.extractLsb' 8 8, c := w.extractLsb' 0 8 } ∧
    s.setDE w = { s with d := w.extractLsb' 8 8, e := w.extractLsb' 0 8 } ∧
    s.setHL w = { s with h := w.extractLsb' 8 8, l := w.extractLsb' 0 8 } ∧
    s.setAF w = { s with a := w.extractLsb' 8 8, f := w.extractLsb' 0 8 &&& 0xF0 }) ∧
  (∀ (s : State) (z n h c : Bool) (v : Byte),
    (s.setFlags z n h c).flags = (z, n, h, c) ∧ (s.setFlags z n h c).f &&& 0x0F = 0 ∧
    s.setFlags z n h c = { s with f := (s.setFlags z n h c).f } ∧
    s.writeF v = { s with f := v &&& 0xF0 } ∧ s.readF &&& 0x0F = 0)

/-- For every destination and source among B C D E H L A: the encoding is 01dddsss, the length 1, and exec answers
the state in which the destination holds the source's old value, every other register, F, SP, PC, the interrupt
state and memory are as before, with 1 cycle and no data access. (R110) -/
def Obligations.LoadRegisterFromRegister : Prop :=
  ∀ (dst src : Reg) (s : State),
    encode (Row.ldRegReg dst src) = [BitVec.ofNat 8 (0x40 + 8 * dst.num + src.num)] ∧
    operandBytes (Row.ldRegReg dst src) = 0 ∧
    ∃ t, exec (Row.ldRegReg dst src) s = .next t ∧
      t.reg dst = s.reg src ∧ (∀ r, r ≠ dst → t.reg r = s.reg r) ∧ t = (s.withRegsOf t).reported 1

/-- For every destination register, H and L among them: the encoding is 01ddd110, the length 1, and exec answers the
state in which the destination holds the byte at the old HL, everything else as before, with one bus read at HL
and 2 cycles. (R111) -/
def Obligations.LoadRegisterFromAtHL : Prop :=
  ∀ (dst : Reg) (s : State),
    encode (Row.ldRegAtHL dst) = [BitVec.ofNat 8 (0x46 + 8 * dst.num)] ∧ operandBytes (Row.ldRegAtHL dst) = 0 ∧
    ∃ t, exec (Row.ldRegAtHL dst) s = .next t ∧
      t.reg dst = s.peek s.hl ∧ (∀ r, r ≠ dst → t.reg r = s.reg r) ∧
      t = { (s.withRegsOf t).reported 2 with bus := s.bus ++ [.read s.hl] }

/-- For every source register, and for the immediate form: the encoding is 01110sss or 36 n8; exec answers the state
in which the byte at HL is the register (or the fetched immediate), every other byte of memory and every
register is as before, with one bus write (after the fetch of the immediate) and 2 or 3 cycles. (R112, R114) -/
def Obligations.StoreAtHL : Prop :=
  (∀ (src : Reg) (s : State),
    encode (Row.ldAtHLReg src) = [BitVec.ofNat 8 (0x70 + src.num)] ∧ operandBytes (Row.ldAtHLReg src) = 0 ∧
    ∃ t, exec (Row.ldAtHLReg src) s = .next t ∧
      (∀ x, t.peek x = if x = s.hl then s.reg src else s.peek x) ∧
      t = { s.reported 2 with mem := t.mem, bus := s.bus ++ [.write s.hl (s.reg src)] }) ∧
  (encode .ld_atHL_n8 = [0x36] ∧ operandBytes .ld_atHL_n8 = 1 ∧ ∀ s : State,
    ∃ t, exec .ld_atHL_n8 s = .next t ∧
      (∀ x, t.peek x = if x = s.hl then s.peek s.pc else s.peek x) ∧
      t = { s.pastByte.reported 3 with
        mem := t.mem, bus := s.bus ++ [.read s.pc, .write s.hl (s.peek s.pc)] })

/-- For every destination register: the encoding is 00ddd110 n8, and exec answers the state in which the destination
holds the byte at PC, PC is past it, everything else is as before, with 2 cycles. (R113) -/
def Obligations.LoadRegisterImmediate : Prop :=
  ∀ (dst : Reg) (s : State),
    encode (Row.ldRegImm dst) = [BitVec.ofNat 8 (0x06 + 8 * dst.num)] ∧ operandBytes (Row.ldRegImm dst) = 1 ∧
    ∃ t, exec (Row.ldRegImm dst) s = .next t ∧
      t.reg dst = s.peek s.pc ∧ (∀ r, r ≠ dst → t.reg r = s.reg r) ∧
      t = (s.pastByte.withRegsOf t).reported 2

/-- For each of the four selectors: the encoding is 00pp0010, and exec answers the state in which the byte at BC, DE
or the HL before the instruction is A, every other byte is as before, HL is one more (HL+), one less (HL-)
modulo 2^16 or unchanged, no other register and no flag changes, with one bus write and 2 cycles. (R115) -/
def Obligations.StoreAIndirect : Prop :=
  ∀ (m : R16Mem) (s : State),
    let a : Word := match m with | .bc => s.bc | .de => s.de | .hlInc => s.hl | .hlDec => s.hl
    encode (Row.ldMemA m) = [BitVec.ofNat 8 (0x02 + 16 * m.num)] ∧ operandBytes (Row.ldMemA m) = 0 ∧
    ∃ t, exec (Row.ldMemA m) s = .next t ∧
      (∀ x, t.peek x = if x = a then s.a else s.peek x) ∧
      t.hl = (match m with | .bc => s.hl | .de => s.hl | .hlInc => s.hl + 1 | .hlDec => s.hl - 1) ∧
      t = { s.reported 2 with h := t.h, l := t.l, mem := t.mem, bus := s.bus ++ [.write a s.a] }

/-- For each of the four selectors: the encoding is 00pp1010, and exec answers the state in which A holds the byte
at BC, DE or the HL before the instruction, HL is one more, one less (modulo 2^16) or unchanged, and nothing
else changes, with one bus read and 2 cycles. (R116) -/
def Obligations.LoadAIndirect : Prop :=
  ∀ (m : R16Mem) (s : State),
    let a : Word := match m with | .bc => s.bc | .de => s.de | .hlInc => s.hl | .hlDec => s.hl
    encode (Row.ldAMem m) = [BitVec.ofNat 8 (0x0A + 16 * m.num)] ∧ operandBytes (Row.ldAMem m) = 0 ∧
    ∃ t, exec (Row.ldAMem m) s = .next t ∧
      t.hl = (match m with | .bc => s.hl | .de => s.hl | .hlInc => s.hl + 1 | .hlDec => s.hl - 1) ∧
      t = { s.reported 2 with a := s.peek a, h := t.h, l := t.l, bus := s.bus ++ [.read a] }

/-- LDH [C],A and LDH [n8],A store A at 0xFF00 plus C or the fetched byte and change no other byte of memory; LDH
A,[C] and LDH A,[n8] load A from there; nothing else changes; encodings E2, F2, E0 n8, F0 n8; 2 cycles with C, 3
with n8; the bus accesses in order. (R117, R118, R119, R120) -/
def Obligations.HighPageLoadsAndStores : Prop :=
  (encode .ldh_atC_A = [0xE2] ∧ encode .ldh_A_atC = [0xF2] ∧ encode .ldh_atN8_A = [0xE0] ∧ encode .ldh_A_atN8 = [0xF0]) ∧
  (operandBytes .ldh_atC_A = 0 ∧ operandBytes .ldh_A_atC = 0 ∧
    operandBytes .ldh_atN8_A = 1 ∧ operandBytes .ldh_A_atN8 = 1) ∧
  ∀ s : State,
    let ac : Word := 0xFF00 + s.c.setWidth 16
    let an : Word := 0xFF00 + (s.peek s.pc).setWidth 16
    (∃ t, exec .ldh_atC_A s = .next t ∧ (∀ x, t.peek x = if x = ac then s.a else s.peek x) ∧
      t = { s.reported 2 with mem := t.mem, bus := s.bus ++ [.write ac s.a] }) ∧
    exec .ldh_A_atC s = .next { s.reported 2 with a := s.peek ac, bus := s.bus ++ [.read ac] } ∧
    (∃ t, exec .ldh_atN8_A s = .next t ∧ (∀ x, t.peek x = if x = an then s.a else s.peek x) ∧
      t = { s.pastByte.reported 3 with mem := t.mem, bus := s.bus ++ [.read s.pc, .write an s.a] }) ∧
    exec .ldh_A_atN8 s =
      .next { s.pastByte.reported 3 with a := s.peek an, bus := s.bus ++ [.read s.pc, .read an] }

/-- LD [n16],A stores A at the word whose low byte is fetched first and changes no other byte of memory; LD A,[n16]
loads A from there; PC is past both operand bytes; nothing else changes; encodings EA, FA with two operand
bytes; 4 cycles; the bus accesses in order. (R121, R122) -/
def Obligations.AbsoluteLoadsAndStoresOfA : Prop :=
  (encode .ld_atN16_A = [0xEA] ∧ operandBytes .ld_atN16_A = 2 ∧ encode .ld_A_atN16 = [0xFA] ∧
    operandBytes .ld_A_atN16 = 2) ∧
  ∀ s : State,
    (∃ t, exec .ld_atN16_A s = .next t ∧ (∀ x, t.peek x = if x = s.immWord then s.a else s.peek x) ∧
      t = { s.pastWord.reported 4 with mem := t.mem, bus := s.pastWord.bus ++ [.write s.immWord s.a] }) ∧
    exec .ld_A_atN16 s =
      .next { s.pastWord.reported 4 with a := s.peek s.immWord, bus := s.pastWord.bus ++ [.read s.immWord] }

/-- For each of BC, DE, HL and SP: the encoding is 00pp0001 with two operand bytes, and exec answers the state in
which the low half holds the byte at PC, the high half the byte at PC + 1, PC is past both, and nothing else
changes, with 3 cycles. LD SP,HL (F9, length 1) answers the state with SP = HL and everything else as before,
with 2 cycles; the nearest to an LD HL,SP, LD HL,SP+e8 with e8 = 0, puts SP in HL and also clears every flag.
(R140, R142) -/
def Obligations.LoadPairs : Prop :=
  (∀ r : R16, encode (Row.ldR16Imm r) = [BitVec.ofNat 8 (0x01 + 16 * r.num)] ∧ operandBytes (Row.ldR16Imm r) = 2) ∧
  (encode .ld_SP_HL = [0xF9] ∧ operandBytes .ld_SP_HL = 0) ∧
  ∀ s : State,
    exec .ld_BC_n16 s = .next { s.pastWord.reported 3 with b := s.peek (s.pc + 1), c := s.peek s.pc } ∧
    exec .ld_DE_n16 s = .next { s.pastWord.reported 3 with d := s.peek (s.pc + 1), e := s.peek s.pc } ∧
    exec .ld_HL_n16 s = .next { s.pastWord.reported 3 with h := s.peek (s.pc + 1), l := s.peek s.pc } ∧
    exec .ld_SP_n16 s = .next { s.pastWord.reported 3 with sp := s.immWord } ∧
    exec .ld_SP_HL s = .next { s.reported 2 with sp := s.h ++ s.l } ∧
    (s.peek s.pc = 0 → ∃ t, exec .ld_HL_SPe8 s = .next t ∧ t.hl = s.sp ∧ t.f = 0)

/-- The low byte of SP is written at the immediate address a, then the high byte at a + 1 modulo 2^16 (0x0000 for a
= 0xFFFF); every other byte, every register and SP itself are as before; encoding 08 with two operand bytes; 5
cycles; the bus accesses in order. (R141) -/
def Obligations.StoreSPLittleEndian : Prop :=
  encode .ld_atN16_SP = [0x08] ∧ operandBytes .ld_atN16_SP = 2 ∧ ∀ s : State,
    ∃ t, exec .ld_atN16_SP s = .next t ∧
      t.wordAt s.immWord = s.sp ∧
      (∀ x, x ≠ s.immWord → x ≠ s.immWord + 1 → t.peek x = s.peek x) ∧
      t = { s.pastWord.reported 5 with
        mem := t.mem
        bus := s.pastWord.bus ++
          [.write s.immWord (t.peek s.immWord), .write (s.immWord + 1) (t.peek (s.immWord + 1))] }

/-- With e the fetched byte: the 16-bit result is SP plus e as a signed number modulo 2^16, Z and N are 0, H and C
are the carries out of bits 3 and 7 of the unsigned sum of the low byte of SP and e; LD HL,SP+e8 puts the result
in HL (SP kept, 3 cycles, F8), ADD SP,e8 in SP (4 cycles, E8); nothing else changes. (41_load16.md section 2
(R143, R144), 43_alu16.md (R193), 92_eei_decisions.md D21) -/
def Obligations.StackPointerPlusDisplacement : Prop :=
  (encode .ld_HL_SPe8 = [0xF8] ∧ operandBytes .ld_HL_SPe8 = 1 ∧ encode .add_SP_e8 = [0xE8] ∧ operandBytes .add_SP_e8 = 1) ∧
  ∀ s : State,
    let e := s.peek s.pc
    let result : Word := BitVec.ofInt 16 ((s.sp.toNat : Int) + e.toInt)
    let half := decide (s.sp.toNat % 16 + e.toNat % 16 > 15)
    let carry := decide (s.sp.toNat % 256 + e.toNat > 255)
    (∃ t, exec .ld_HL_SPe8 s = .next t ∧ t.hl = result ∧ t.flags = (false, false, half, carry) ∧
      t.f &&& 0x0F = 0 ∧ t = { s.pastByte.reported 3 with h := t.h, l := t.l, f := t.f }) ∧
    (∃ t, exec .add_SP_e8 s = .next t ∧ t.sp = result ∧ t.flags = (false, false, half, carry) ∧
      t.f &&& 0x0F = 0 ∧ t = { s.pastByte.reported 4 with sp := t.sp, f := t.f })

/-- For each of the three operand forms of ADD and ADC: A becomes the sum of A, the operand and the carry-in (0 for
ADD, the old C for ADC) modulo 256; Z tells a zero result, N is 0, H and C are the carries out of bits 3 and 7,
the carry-in counted in both; nothing else changes but PC past an immediate; encodings, cycles and accesses of
each form. (R150, R157, R158, R159, R160, R161, R162) -/
def Obligations.AddAndAddWithCarry : Prop :=
  ∀ (form : AluForm) (s : State) (withCarry : Bool),
    let op : AluOp := if withCarry then .adc else .add
    let b := form.operand s
    let cin := if withCarry then s.flagC.toNat else 0
    encode (form.instr op) = [BitVec.ofNat 8 (form.opcode op)] ∧
    operandBytes (form.instr op) = (if form = .imm then 1 else 0) ∧
    ∃ t, exec (form.instr op) s = .next t ∧
      t.a.toNat = (s.a.toNat + b.toNat + cin) % 256 ∧
      t.flags = (decide (t.a = 0), false, decide (s.a.toNat % 16 + b.toNat % 16 + cin > 15),
        decide (s.a.toNat + b.toNat + cin > 255)) ∧
      t.f &&& 0x0F = 0 ∧ t = { (form.past s).reported form.cycles with a := t.a, f := t.f }

/-- For each of the three operand forms of SUB and SBC: A becomes A minus the operand minus the borrow-in (0 for
SUB, the old C for SBC) modulo 256; Z tells a zero result, N is 1, H and C are the borrows out of bits 3 and 7
by integer comparison with no wrap; nothing else changes but PC past an immediate; encodings, cycles and
accesses of each form. (R151, R163, R164, R165, R166, R167, R168) -/
def Obligations.SubtractAndSubtractWithBorrow : Prop :=
  ∀ (form : AluForm) (s : State) (withBorrow : Bool),
    let op : AluOp := if withBorrow then .sbc else .sub
    let b := form.operand s
    let cin := if withBorrow then s.flagC.toNat else 0
    encode (form.instr op) = [BitVec.ofNat 8 (form.opcode op)] ∧
    operandBytes (form.instr op) = (if form = .imm then 1 else 0) ∧
    ∃ t, exec (form.instr op) s = .next t ∧
      (t.a.toNat : Int) = ((s.a.toNat : Int) - b.toNat - cin) % 256 ∧
      t.flags = (decide (t.a = 0), true, decide (s.a.toNat % 16 < b.toNat % 16 + cin),
        decide (s.a.toNat < b.toNat + cin)) ∧
      t.f &&& 0x0F = 0 ∧ t = { (form.past s).reported form.cycles with a := t.a, f := t.f }

/-- For each of the three operand forms of CP: A and every other register are as before, Z is 1 exactly when A
equals the operand, N is 1, C is 1 exactly when A is below the operand (unsigned), H is 1 exactly when the low
nibble of A is below that of the operand; encodings, cycles and accesses of each form. (R178, R179, R180) -/
def Obligations.CompareWritesOnlyFlags : Prop :=
  ∀ (form : AluForm) (s : State),
    let b := form.operand s
    encode (form.instr .cp) = [BitVec.ofNat 8 (form.opcode .cp)] ∧
    operandBytes (form.instr .cp) = (if form = .imm then 1 else 0) ∧
    ∃ t, exec (form.instr .cp) s = .next t ∧
      t.flags = (decide (s.a = b), true, decide (s.a.toNat % 16 < b.toNat % 16), decide (s.a.toNat < b.toNat)) ∧
      t.f &&& 0x0F = 0 ∧ t = { (form.past s).reported form.cycles with f := t.f }

/-- For each of the three operand forms of AND, XOR and OR: A becomes the bitwise result, Z tells a zero result, N
and C are 0, H is 1 for AND and 0 for XOR and OR; nothing else changes but PC past an immediate; encodings,
cycles and accesses of each form. (R152, R169, R170, R171, R172, R173, R174, R175, R176, R177) -/
def Obligations.LogicOperations : Prop :=
  ∀ (form : AluForm) (op : AluOp) (s : State), op ∈ [AluOp.and, .xor, .or] →
    let b := form.operand s
    encode (form.instr op) = [BitVec.ofNat 8 (form.opcode op)] ∧
    operandBytes (form.instr op) = (if form = .imm then 1 else 0) ∧
    ∃ t, exec (form.instr op) s = .next t ∧
      (∀ k < 8, t.a.getLsbD k =
        if op = .and then (s.a.getLsbD k && b.getLsbD k)
        else if op = .xor then (s.a.getLsbD k ^^ b.getLsbD k)
        else (s.a.getLsbD k || b.getLsbD k)) ∧
      t.flags = (decide (t.a = 0), false, decide (op = .and), false) ∧
      t.f &&& 0x0F = 0 ∧ t = { (form.past s).reported form.cycles with a := t.a, f := t.f }

/-- For every register: INC gives the old value plus 1 modulo 256, Z from the result, N 0, H exactly when the old
low nibble was F; DEC gives minus 1, N 1, H exactly when the old low nibble was 0; C is kept, and no other
register or memory byte changes; encodings 00ddd100 and 00ddd101; 1 cycle. (R153, R155) -/
def Obligations.IncrementAndDecrementRegister : Prop :=
  ∀ (r : Reg) (s : State),
    (encode (Row.incReg r) = [BitVec.ofNat 8 (0x04 + 8 * r.num)] ∧ operandBytes (Row.incReg r) = 0 ∧
      ∃ t, exec (Row.incReg r) s = .next t ∧
        (t.reg r).toNat = ((s.reg r).toNat + 1) % 256 ∧ (∀ q, q ≠ r → t.reg q = s.reg q) ∧
        t.flags = (decide (t.reg r = 0), false, decide ((s.reg r).toNat % 16 = 15), s.flagC) ∧
        t.f &&& 0x0F = 0 ∧ t = { (s.withRegsOf t).reported 1 with f := t.f }) ∧
    (encode (Row.decReg r) = [BitVec.ofNat 8 (0x05 + 8 * r.num)] ∧ operandBytes (Row.decReg r) = 0 ∧
      ∃ t, exec (Row.decReg r) s = .next t ∧
        (t.reg r).toNat = ((s.reg r).toNat + 255) % 256 ∧ (∀ q, q ≠ r → t.reg q = s.reg q) ∧
        t.flags = (decide (t.reg r = 0), true, decide ((s.reg r).toNat % 16 = 0), s.flagC) ∧
        t.f &&& 0x0F = 0 ∧ t = { (s.withRegsOf t).reported 1 with f := t.f })

/-- The byte at HL becomes itself plus or minus 1 modulo 256, every other byte and every register is as before, Z,
N, H as for the register forms, C kept; one read then one write at HL; encodings 34 and 35; 3 cycles. (R154,
R156) -/
def Obligations.IncrementAndDecrementAtHL : Prop :=
  (encode .inc_atHL = [0x34] ∧ operandBytes .inc_atHL = 0 ∧ encode .dec_atHL = [0x35] ∧ operandBytes .dec_atHL = 0) ∧
  ∀ s : State,
    let v := s.peek s.hl
    (∃ t, exec .inc_atHL s = .next t ∧
      (t.peek s.hl).toNat = (v.toNat + 1) % 256 ∧ (∀ x, x ≠ s.hl → t.peek x = s.peek x) ∧
      t.flags = (decide (t.peek s.hl = 0), false, decide (v.toNat % 16 = 15), s.flagC) ∧ t.f &&& 0x0F = 0 ∧
      t = { s.reported 3 with
        f := t.f, mem := t.mem, bus := s.bus ++ [.read s.hl, .write s.hl (t.peek s.hl)] }) ∧
    (∃ t, exec .dec_atHL s = .next t ∧
      (t.peek s.hl).toNat = (v.toNat + 255) % 256 ∧ (∀ x, x ≠ s.hl → t.peek x = s.peek x) ∧
      t.flags = (decide (t.peek s.hl = 0), true, decide (v.toNat % 16 = 0), s.flagC) ∧ t.f &&& 0x0F = 0 ∧
      t = { s.reported 3 with
        f := t.f, mem := t.mem, bus := s.bus ++ [.read s.hl, .write s.hl (t.peek s.hl)] })

/-- With N = 0 the high correction 0x60 is applied when C is 1 or A > 0x99 and the low correction 0x06 when H is 1
or the low digit exceeds 9, both added; with N = 1 they are subtracted when C or H asks; Z from the result, H 0,
C kept or set by the high correction with N = 0, N kept; nothing but A and F changes; encoding 27; 1 cycle.
(R181) -/
def Obligations.DecimalAdjust : Prop :=
  encode .daa = [0x27] ∧ operandBytes .daa = 0 ∧ ∀ s : State,
    let high := s.flagC || (!s.flagN && decide (s.a.toNat > 0x99))
    let low := s.flagH || (!s.flagN && decide (s.a.toNat % 16 > 9))
    let total : Int := 0x60 * high.toNat + 0x06 * low.toNat
    ∃ t, exec .daa s = .next t ∧
      (t.a.toNat : Int) = (if s.flagN then (s.a.toNat : Int) - total else s.a.toNat + total) % 256 ∧
      t.flags = (decide (t.a = 0), s.flagN, false, high) ∧
      t.f &&& 0x0F = 0 ∧ t = { s.reported 1 with a := t.a, f := t.f }

/-- CPL: every bit of A is complemented, N and H become 1, Z and C are kept. SCF: C becomes 1, N and H 0, Z kept.
CCF: C is complemented, N and H 0, Z kept. Nothing else changes; encodings 2F, 37, 3F; 1 cycle each. (R182,
R183, R184) -/
def Obligations.ComplementAndCarryFlagInstructions : Prop :=
  (encode .cpl = [0x2F] ∧ encode .scf = [0x37] ∧ encode .ccf = [0x3F]) ∧
  (operandBytes .cpl = 0 ∧ operandBytes .scf = 0 ∧ operandBytes .ccf = 0) ∧ ∀ s : State,
    (∃ t, exec .cpl s = .next t ∧ t.a = s.a ^^^ 0xFF ∧ t.flags = (s.flagZ, true, true, s.flagC) ∧
      t.f &&& 0x0F = 0 ∧ t = { s.reported 1 with a := t.a, f := t.f }) ∧
    (∃ t, exec .scf s = .next t ∧ t.flags = (s.flagZ, false, false, true) ∧
      t.f &&& 0x0F = 0 ∧ t = { s.reported 1 with f := t.f }) ∧
    (∃ t, exec .ccf s = .next t ∧ t.flags = (s.flagZ, false, false, !s.flagC) ∧
      t.f &&& 0x0F = 0 ∧ t = { s.reported 1 with f := t.f })

/-- For each of BC, DE, HL and SP: the value becomes itself plus 1, or minus 1, modulo 2^16; the other three, A, F
and everything else are as before; encodings 00pp0011 and 00pp1011; 2 cycles. (R190, R191) -/
def Obligations.IncrementAndDecrementPair : Prop :=
  ∀ (r : R16) (s : State),
    (encode (Row.incR16 r) = [BitVec.ofNat 8 (0x03 + 16 * r.num)] ∧ operandBytes (Row.incR16 r) = 0 ∧
      ∃ t, exec (Row.incR16 r) s = .next t ∧
        (t.r16 r).toNat = ((s.r16 r).toNat + 1) % 65536 ∧ (∀ q, q ≠ r → t.r16 q = s.r16 q) ∧ t.a = s.a ∧
        t = { (s.withRegsOf t).reported 2 with sp := t.sp }) ∧
    (encode (Row.decR16 r) = [BitVec.ofNat 8 (0x0B + 16 * r.num)] ∧ operandBytes (Row.decR16 r) = 0 ∧
      ∃ t, exec (Row.decR16 r) s = .next t ∧
        (t.r16 r).toNat = ((s.r16 r).toNat + 65535) % 65536 ∧ (∀ q, q ≠ r → t.r16 q = s.r16 q) ∧ t.a = s.a ∧
        t = { (s.withRegsOf t).reported 2 with sp := t.sp })

/-- For each of BC, DE, HL and SP: HL becomes the sum modulo 2^16, N is 0, H is the carry out of bit 11, C the carry
out of bit 15, Z is kept; nothing else changes; encoding 00pp1001; 2 cycles. (R192) -/
def Obligations.AddPairToHL : Prop :=
  ∀ (r : R16) (s : State),
    encode (Row.addHLR16 r) = [BitVec.ofNat 8 (0x09 + 16 * r.num)] ∧ operandBytes (Row.addHLR16 r) = 0 ∧
    ∃ t, exec (Row.addHLR16 r) s = .next t ∧
      t.hl.toNat = (s.hl.toNat + (s.r16 r).toNat) % 65536 ∧
      t.flags = (s.flagZ, false, decide (s.hl.toNat % 4096 + (s.r16 r).toNat % 4096 > 4095),
        decide (s.hl.toNat + (s.r16 r).toNat > 65535)) ∧
      t.f &&& 0x0F = 0 ∧ t = { s.reported 2 with h := t.h, l := t.l, f := t.f }

/-- Each of the four gives the rotation of A of 44_rotate_shift_bit.md R204 (through the old carry for RLA and RRA),
C is the bit moved out, Z, N and H are 0 whatever the result; nothing else changes; encodings 07, 0F, 17, 1F; 1
cycle. (R200, R201, R202, R203) -/
def Obligations.AccumulatorRotates : Prop :=
  (encode .rlca = [0x07] ∧ encode .rrca = [0x0F] ∧ encode .rla = [0x17] ∧ encode .rra = [0x1F]) ∧
  (operandBytes .rlca = 0 ∧ operandBytes .rrca = 0 ∧ operandBytes .rla = 0 ∧ operandBytes .rra = 0) ∧
  ∀ (s : State) (i : Instr) (op : RotOp),
    (i, op) ∈ [(Instr.rlca, RotOp.rlc), (.rrca, .rrc), (.rla, .rl), (.rra, .rr)] →
    ∃ t, exec i s = .next t ∧
      t.a.toNat = rotValue op s.a.toNat s.flagC.toNat ∧
      t.flags = (false, false, false, rotCarry op s.a.toNat) ∧
      t.f &&& 0x0F = 0 ∧ t = { s.reported 1 with a := t.a, f := t.f }

/-- For each of the eight operations and every register: the register becomes the result of the table of R204, Z
tells a zero result, N and H are 0, C is the carry-out of the table (0 for SWAP); no other register or memory
byte changes; encoding CB, 00yyyttt; 2 cycles. (R204, R205, R207, R209, R211, R213, R215, R217, R219) -/
def Obligations.ExtendedRotatesAndShiftsOfRegister : Prop :=
  ∀ (op : RotOp) (r : Reg) (s : State),
    encode (Row.rotReg op r) = [0xCB, BitVec.ofNat 8 (8 * op.num + r.num)] ∧ operandBytes (Row.rotReg op r) = 0 ∧
    ∃ t, exec (Row.rotReg op r) s = .next t ∧
      (t.reg r).toNat = rotValue op (s.reg r).toNat s.flagC.toNat ∧ (∀ q, q ≠ r → t.reg q = s.reg q) ∧
      t.flags = (decide (t.reg r = 0), false, false, rotCarry op (s.reg r).toNat) ∧
      t.f &&& 0x0F = 0 ∧ t = { (s.withRegsOf t).reported 2 with f := t.f }

/-- For each of the eight operations: the byte at HL becomes the result of the table of R204, every other byte and
every register is as before, the flags as in the register form; one read then one write at HL; encoding CB,
00yyy110; 4 cycles. (R204, R206, R208, R210, R212, R214, R216, R218, R220) -/
def Obligations.ExtendedRotatesAndShiftsAtHL : Prop :=
  ∀ (op : RotOp) (s : State),
    encode (Row.rotAtHL op) = [0xCB, BitVec.ofNat 8 (8 * op.num + 6)] ∧ operandBytes (Row.rotAtHL op) = 0 ∧
    ∃ t, exec (Row.rotAtHL op) s = .next t ∧
      (t.peek s.hl).toNat = rotValue op (s.peek s.hl).toNat s.flagC.toNat ∧
      (∀ x, x ≠ s.hl → t.peek x = s.peek x) ∧
      t.flags = (decide (t.peek s.hl = 0), false, false, rotCarry op (s.peek s.hl).toNat) ∧
      t.f &&& 0x0F = 0 ∧
      t = { s.reported 4 with
        f := t.f, mem := t.mem, bus := s.bus ++ [.read s.hl, .write s.hl (t.peek s.hl)] }

/-- For every bit index and every register, and for [HL]: Z is 1 exactly when the bit is 0, N is 0, H is 1, C is
kept; nothing but F changes; one read and no write for [HL]; encodings CB, 01bbbttt and CB, 01bbb110; 2 and 3
cycles. (R221, R222) -/
def Obligations.BitTest : Prop :=
  ∀ (i : Idx3) (s : State),
    (∀ r : Reg, encode (Row.bitReg i r) = [0xCB, BitVec.ofNat 8 (0x40 + 8 * i.num + r.num)] ∧
      operandBytes (Row.bitReg i r) = 0 ∧
      ∃ t, exec (Row.bitReg i r) s = .next t ∧
        t.flags = (!(s.reg r).getLsbD i.num, false, true, s.flagC) ∧
        t.f &&& 0x0F = 0 ∧ t = { s.reported 2 with f := t.f }) ∧
    (encode (Row.bitAtHL i) = [0xCB, BitVec.ofNat 8 (0x46 + 8 * i.num)] ∧ operandBytes (Row.bitAtHL i) = 0 ∧
      ∃ t, exec (Row.bitAtHL i) s = .next t ∧
        t.flags = (!(s.peek s.hl).getLsbD i.num, false, true, s.flagC) ∧
        t.f &&& 0x0F = 0 ∧ t = { s.reported 3 with f := t.f, bus := s.bus ++ [.read s.hl] })

/-- For every bit index and every register: RES makes that bit 0 and SET makes it 1, the other seven bits, every
other register, F and everything else are as before; encodings CB, 10bbbttt and CB, 11bbbttt; 2 cycles. (R223,
R225) -/
def Obligations.BitResetAndSetOfRegister : Prop :=
  ∀ (i : Idx3) (r : Reg) (s : State),
    (encode (Row.resReg i r) = [0xCB, BitVec.ofNat 8 (0x80 + 8 * i.num + r.num)] ∧
      operandBytes (Row.resReg i r) = 0 ∧
      ∃ t, exec (Row.resReg i r) s = .next t ∧
        (∀ k < 8, (t.reg r).getLsbD k = if k = i.num then false else (s.reg r).getLsbD k) ∧
        (∀ q, q ≠ r → t.reg q = s.reg q) ∧ t = (s.withRegsOf t).reported 2) ∧
    (encode (Row.setBitReg i r) = [0xCB, BitVec.ofNat 8 (0xC0 + 8 * i.num + r.num)] ∧
      operandBytes (Row.setBitReg i r) = 0 ∧
      ∃ t, exec (Row.setBitReg i r) s = .next t ∧
        (∀ k < 8, (t.reg r).getLsbD k = if k = i.num then true else (s.reg r).getLsbD k) ∧
        (∀ q, q ≠ r → t.reg q = s.reg q) ∧ t = (s.withRegsOf t).reported 2)

/-- For every bit index: RES makes that bit of the byte at HL 0 and SET makes it 1, its other bits, every other byte
and every register are as before, F among them; one read then one write at HL, also when the bit already had the
value; encodings CB, 10bbb110 and CB, 11bbb110; 4 cycles. (R224, R226) -/
def Obligations.BitResetAndSetAtHL : Prop :=
  ∀ (i : Idx3) (s : State),
    (encode (Row.resAtHL i) = [0xCB, BitVec.ofNat 8 (0x86 + 8 * i.num)] ∧ operandBytes (Row.resAtHL i) = 0 ∧
      ∃ t, exec (Row.resAtHL i) s = .next t ∧
        (∀ k < 8, (t.peek s.hl).getLsbD k = if k = i.num then false else (s.peek s.hl).getLsbD k) ∧
        (∀ x, x ≠ s.hl → t.peek x = s.peek x) ∧
        t = { s.reported 4 with mem := t.mem, bus := s.bus ++ [.read s.hl, .write s.hl (t.peek s.hl)] }) ∧
    (encode (Row.setBitAtHL i) = [0xCB, BitVec.ofNat 8 (0xC6 + 8 * i.num)] ∧ operandBytes (Row.setBitAtHL i) = 0 ∧
      ∃ t, exec (Row.setBitAtHL i) s = .next t ∧
        (∀ k < 8, (t.peek s.hl).getLsbD k = if k = i.num then true else (s.peek s.hl).getLsbD k) ∧
        (∀ x, x ≠ s.hl → t.peek x = s.peek x) ∧
        t = { s.reported 4 with mem := t.mem, bus := s.bus ++ [.read s.hl, .write s.hl (t.peek s.hl)] })

/-- With e the fetched byte and PC past it: JR always, and JR cond when its condition on Z or C holds, goes to PC
plus e as a signed number modulo 2^16 in 3 cycles; otherwise PC stays past the instruction, in 2 cycles; the
byte is fetched in both cases and nothing else changes; encodings 18 e8 and 001cc000 e8. (45_control.md section
1 (R240, R241), 92_eei_decisions.md D16) -/
def Obligations.RelativeJumps : Prop :=
  (encode .jr_e8 = [0x18] ∧ operandBytes .jr_e8 = 1) ∧
  (∀ cc : Cond, encode (Row.jrCond cc) = [BitVec.ofNat 8 (0x20 + 8 * cc.num)] ∧ operandBytes (Row.jrCond cc) = 1) ∧
  ∀ s : State,
    let target : Word := BitVec.ofInt 16 (((s.pc + 1).toNat : Int) + (s.peek s.pc).toInt)
    exec .jr_e8 s = .next { s.pastByte.reported 3 with pc := target } ∧
    ∀ cc : Cond,
      let taken := match cc with | .nz => !s.flagZ | .z => s.flagZ | .nc => !s.flagC | .c => s.flagC
      exec (Row.jrCond cc) s =
        .next (if taken then { s.pastByte.reported 3 with pc := target } else s.pastByte.reported 2)

/-- JP goes to the little-endian immediate in 4 cycles; JP cond does so when its condition holds and otherwise
leaves PC past the instruction in 3 cycles, both bytes fetched in both cases; JP HL goes to the value of HL in 1
cycle with no memory access; encodings C3, 110cc010 with two operand bytes, E9. (R242, R243, R244) -/
def Obligations.AbsoluteJumps : Prop :=
  (encode .jp_n16 = [0xC3] ∧ operandBytes .jp_n16 = 2 ∧ encode .jp_HL = [0xE9] ∧ operandBytes .jp_HL = 0) ∧
  (∀ cc : Cond, encode (Row.jpCond cc) = [BitVec.ofNat 8 (0xC2 + 8 * cc.num)] ∧ operandBytes (Row.jpCond cc) = 2) ∧
  ∀ s : State,
    exec .jp_n16 s = .next { s.pastWord.reported 4 with pc := s.immWord } ∧
    exec .jp_HL s = .next { s.reported 1 with pc := s.h ++ s.l } ∧
    ∀ cc : Cond,
      let taken := match cc with | .nz => !s.flagZ | .z => s.flagZ | .nc => !s.flagC | .c => s.flagC
      exec (Row.jpCond cc) s =
        .next (if taken then { s.pastWord.reported 4 with pc := s.immWord } else s.pastWord.reported 3)

/-- CALL, and CALL cond when its condition holds, write the address after the three bytes little-endian at SP - 2
and SP - 1 (high byte first), lower SP by 2 modulo 2^16 and go to the immediate, in 6 cycles; every other byte
and register is as before; not taken, PC is past the instruction and nothing is pushed, 3 cycles; encodings CD,
110cc100 with two operand bytes. (R245, R246) -/
def Obligations.CallsPushTheReturnAddress : Prop :=
  (encode .call_n16 = [0xCD] ∧ operandBytes .call_n16 = 2) ∧
  (∀ cc : Cond, encode (Row.callCond cc) = [BitVec.ofNat 8 (0xC4 + 8 * cc.num)] ∧ operandBytes (Row.callCond cc) = 2) ∧
  ∀ s : State, ∃ t,
    t.wordAt (s.sp - 2) = s.pc + 2 ∧ (∀ x, x ≠ s.sp - 2 → x ≠ s.sp - 1 → t.peek x = s.peek x) ∧
    t = { s.pastWord.reported 6 with
      sp := s.sp - 2, pc := s.immWord, mem := t.mem
      bus := s.pastWord.bus ++ [.write (s.sp - 1) (t.peek (s.sp - 1)), .write (s.sp - 2) (t.peek (s.sp - 2))] } ∧
    exec .call_n16 s = .next t ∧
    ∀ cc : Cond,
      let taken := match cc with | .nz => !s.flagZ | .z => s.flagZ | .nc => !s.flagC | .c => s.flagC
      exec (Row.callCond cc) s = .next (if taken then t else s.pastWord.reported 3)

/-- RET, RET cond when its condition holds, and RETI set PC to the little-endian word at SP and raise SP by 2 modulo
2^16, memory unchanged, in 4, 5 and 4 cycles; RETI also sets IME to 1 and ime_pending to 0; RET cond not taken
reads nothing and costs 2 cycles; nothing else changes; encodings C9, 110cc000, D9; and after a step that ran
RETI with a request pending the next step dispatches it. (45_control.md (R247, R248, R249), 92_eei_decisions.md
D8) -/
def Obligations.ReturnsPopTheReturnAddress : Prop :=
  (encode .ret = [0xC9] ∧ encode .reti = [0xD9] ∧ operandBytes .ret = 0 ∧ operandBytes .reti = 0) ∧
  (∀ cc : Cond, encode (Row.retCond cc) = [BitVec.ofNat 8 (0xC0 + 8 * cc.num)] ∧ operandBytes (Row.retCond cc) = 0) ∧
  (∀ s : State,
    let popped : State :=
      { s with pc := s.wordAt s.sp, sp := s.sp + 2, bus := s.bus ++ [.read s.sp, .read (s.sp + 1)] }
    exec .ret s = .next (popped.reported 4) ∧
    exec .reti s = .next { popped.reported 4 with ime := true, imePending := false } ∧
    ∀ cc : Cond,
      let taken := match cc with | .nz => !s.flagZ | .z => s.flagZ | .nc => !s.flagC | .c => s.flagC
      exec (Row.retCond cc) s = .next (if taken then popped.reported 5 else s.reported 2)) ∧
  (∀ s t : State, s.run = .fetching → (s.ime = false ∨ s.pending = 0) → s.peek s.pc = 0xD9 →
    step s = .next t → t.pending ≠ 0 → ∃ u i, step t = .next u ∧ u.status = .interrupt i)

/-- For each of the eight targets: the address after the instruction is written little-endian at SP - 2 and SP - 1
(high byte first), SP goes down by 2 modulo 2^16, PC becomes 8 * tgt3; every other byte and register is as
before; encoding 11ttt111; 4 cycles. (R250) -/
def Obligations.RestartPushesPCAndGoesToItsVector : Prop :=
  ∀ (n : Idx3) (s : State),
    encode (Row.rst n) = [BitVec.ofNat 8 (0xC7 + 8 * n.num)] ∧ operandBytes (Row.rst n) = 0 ∧
    ∃ t, exec (Row.rst n) s = .next t ∧
      t.wordAt (s.sp - 2) = s.pc ∧ (∀ x, x ≠ s.sp - 2 → x ≠ s.sp - 1 → t.peek x = s.peek x) ∧
      t = { s.reported 4 with
        sp := s.sp - 2, pc := BitVec.ofNat 16 (8 * n.num), mem := t.mem
        bus := s.bus ++ [.write (s.sp - 1) (t.peek (s.sp - 1)), .write (s.sp - 2) (t.peek (s.sp - 2))] }

/-- For each of BC, DE, HL and AF (F with a zero low nibble): the pair is written little-endian at SP - 2 and SP - 1
(high byte first), SP goes down by 2 modulo 2^16; every other byte, the pair, the flags and every other register
are as before; encoding 11pp0101; 4 cycles. (R260) -/
def Obligations.PushStoresThePair : Prop :=
  ∀ (r : R16Stk) (s : State),
    encode (Row.push r) = [BitVec.ofNat 8 (0xC5 + 16 * r.num)] ∧ operandBytes (Row.push r) = 0 ∧
    ∃ t, exec (Row.push r) s = .next t ∧
      t.wordAt (s.sp - 2) =
        (match r with | .bc => s.b ++ s.c | .de => s.d ++ s.e | .hl => s.h ++ s.l | .af => s.a ++ (s.f &&& 0xF0)) ∧
      (∀ x, x ≠ s.sp - 2 → x ≠ s.sp - 1 → t.peek x = s.peek x) ∧
      t = { s.reported 4 with
        sp := s.sp - 2, mem := t.mem
        bus := s.bus ++ [.write (s.sp - 1) (t.peek (s.sp - 1)), .write (s.sp - 2) (t.peek (s.sp - 2))] }

/-- The low register takes the byte at SP, the high register the byte at SP + 1, SP goes up by 2 modulo 2^16, memory
is unchanged; POP BC, DE and HL write no flag; POP AF writes A and bits 7 to 4 of F and leaves its low nibble 0;
nothing else changes; encoding 11pp0001; 3 cycles. (R261, R262) -/
def Obligations.PopLoadsThePair : Prop :=
  (∀ r : R16Stk, encode (Row.pop r) = [BitVec.ofNat 8 (0xC1 + 16 * r.num)] ∧ operandBytes (Row.pop r) = 0) ∧
  ∀ s : State,
    let popped : State :=
      { s.reported 3 with sp := s.sp + 2, bus := s.bus ++ [.read s.sp, .read (s.sp + 1)] }
    exec .pop_BC s = .next { popped with b := s.peek (s.sp + 1), c := s.peek s.sp } ∧
    exec .pop_DE s = .next { popped with d := s.peek (s.sp + 1), e := s.peek s.sp } ∧
    exec .pop_HL s = .next { popped with h := s.peek (s.sp + 1), l := s.peek s.sp } ∧
    exec .pop_AF s = .next { popped with a := s.peek (s.sp + 1), f := s.peek s.sp &&& 0xF0 }

/-- For each of BC, DE, HL and AF and every SP, 0x0000 and 0x0001 among them: after PUSH and then POP of the same
pair every register, the flags (as F reads) and SP are as before, and memory holds the pair at SP - 2 and SP -
1. (46_stack.md R263, 20_memory.md R62) -/
def Obligations.PopAfterPushRestores : Prop :=
  ∀ (r : R16Stk) (s : State), ∃ t u, exec (Row.push r) s = .next t ∧ exec (Row.pop r) t = .next u ∧
    (∀ q, u.reg q = s.reg q) ∧ u.readF = s.readF ∧ u.sp = s.sp ∧ u.pc = s.pc ∧ u.mem = t.mem ∧
    u.wordAt (s.sp - 2) = s.r16stk r

/-- NOP changes nothing but what the step reports. DI sets IME and ime_pending to 0. EI with IME = 0 sets
ime_pending and nothing else; with IME = 1 it changes nothing; IME becomes 1 at the end of the step that
executes the next instruction, a second EI included, and not when that instruction is illegal, and ends 0 when
it is DI; a step right after DI dispatches nothing. Encodings 00, F3, FB; 1 cycle each. (47_system.md section 2
(R270, R273, R274), 92_eei_decisions.md D6, D7) -/
def Obligations.NopDiEi : Prop :=
  (encode .nop = [0x00] ∧ encode .di = [0xF3] ∧ encode .ei = [0xFB]) ∧
  (operandBytes .nop = 0 ∧ operandBytes .di = 0 ∧ operandBytes .ei = 0) ∧
  (∀ s : State,
    exec .nop s = .next (s.reported 1) ∧
    exec .di s = .next { s.reported 1 with ime := false, imePending := false } ∧
    (s.ime = false → exec .ei s = .next { s.reported 1 with imePending := true }) ∧
    (s.ime = true → exec .ei s = .next (s.reported 1))) ∧
  (∀ s t : State, s.run = .fetching → s.ime = false → s.imePending = true → step s = .next t →
    (∀ i, t.status ≠ .interrupt i) ∧
    (decodeBase (s.peek s.pc) ∉ Instr.di :: illegalRows → t.ime = true ∧ t.imePending = false) ∧
    (decodeBase (s.peek s.pc) = .di → t.ime = false ∧ t.imePending = false) ∧
    (decodeBase (s.peek s.pc) ∈ illegalRows → t.ime = false)) ∧
  (∀ s t u : State, exec .di s = .next t → step t = .next u → t.status = .ran ∧ ∀ i, u.status ≠ .interrupt i)

/-- From a fetching state with IME = 0, no earlier EI still waiting (ime_pending = 0) and EI at PC, with any request
pending: the first step executes EI and the second executes an instruction, neither dispatches; when an enabled
interrupt is requested after them, the third step dispatches it, HALT, RETI and a second EI among the
instructions in between; after DI in between IME and ime_pending are 0 and the third step does not dispatch.
STOP and an illegal opcode in between are terminal. (70_reset_and_hazards.md section 2 (R342), 47_system.md
section 1 (R265 part 5), 92_eei_decisions.md D6) -/
def Obligations.EnableDelayLetsOneInstructionRun : Prop :=
  ∀ s t u : State, s.run = .fetching → s.ime = false → s.imePending = false → s.peek s.pc = 0xFB →
    step s = .next t → step t = .next u →
    t.status = .ran ∧ t.pc = s.pc + 1 ∧ t.ime = false ∧ t.imePending = true ∧ t.mem = s.mem ∧
    (∀ i, u.status ≠ .interrupt i) ∧
    (decodeBase (t.peek t.pc) ∉ Instr.di :: .stop :: illegalRows → u.pending ≠ 0 →
      ∃ v i, step u = .next v ∧ v.status = .interrupt i) ∧
    (decodeBase (t.peek t.pc) = .di → u.ime = false ∧ u.imePending = false ∧
      ∀ v, step u = .next v → ∀ i, v.status ≠ .interrupt i)

/-- HALT enters Halted and changes nothing else (encoding 76, 1 cycle), IME and ime_pending among it; a halted core
with IE and IF sharing none of bits 4 to 0 returns (Halted, 1) with no bus access and nothing changed; with one
shared it wakes whatever IME is: with IME = 1 the step dispatches an interrupt and pushes the PC after the HALT,
with IME = 0 it executes the next instruction in the same step exactly as a fetching core would. (47_system.md
section 2 (R271), 60_exceptions.md R310, 92_eei_decisions.md D12, D25) -/
def Obligations.HaltIdlesUntilAnEnabledRequest : Prop :=
  encode .halt = [0x76] ∧ operandBytes .halt = 0 ∧
  (∀ s : State, exec .halt s = .next { s with run := .halted, status := .halted, cycles := 1 }) ∧
  (∀ s : State, s.run = .halted → (∀ k < 5, ¬ ((s.peek 0xFFFF).getLsbD k ∧ (s.peek 0xFF0F).getLsbD k)) →
    step s = .next { s with status := .halted, cycles := 1, bus := [] }) ∧
  (∀ s : State, s.run = .halted → (∃ k < 5, (s.peek 0xFFFF).getLsbD k ∧ (s.peek 0xFF0F).getLsbD k) →
    step s = step { s with run := .fetching } ∧
    (s.ime = true → ∃ t i, step s = .next t ∧ t.status = .interrupt i ∧ t.wordAt t.sp = s.pc) ∧
    (s.ime = false → step s = finishInstruction s.imePending
      (executeOne { s with run := .fetching, bus := [] })))

/-- STOP fetches and discards one byte, whatever it is, enters Stopped and changes no register, flag or memory byte
(encoding 10 with one operand byte, 1 cycle); in Stopped every step, with any interrupt requested and enabled,
returns (Stopped, 0) and changes nothing, and only reset leaves it (decision D13 of the spec). That a step from
Stopped answers a next state, and not a fault, is the model choice of log 5 (DEDUCED: R267 names no outcome for
Stopped); that the core stays stopped is D13 and does not hold of hardware, where a joypad line ends it.
(47_system.md section 2 (R272), 92_eei_decisions.md D13) -/
def Obligations.StopIsTerminal : Prop :=
  encode .stop = [0x10] ∧ operandBytes .stop = 1 ∧
  (∀ s : State, exec .stop s = .next { s.pastByte with run := .stopped, status := .stopped, cycles := 1 }) ∧
  (∀ s : State, s.run = .stopped →
    step s = .next { s with status := .stopped, cycles := 0, bus := [] }) ∧
  (∀ (s : State) (r : ResetRegs), (s.resetEvent r).run = .fetching) ∧
  (∀ s : State, s.run = .stopped → s.terminal = true)

/-- For each of the eleven bytes: a fetching core that takes no interrupt and finds it at PC enters Faulted with
that byte, PC advanced by 1, reporting (Faulted(b), 0), no register, flag, memory byte, IME or ime_pending
changed; from Faulted(b) no step changes anything: it answers the fault that carries b, until reset. That the
step which fetches the byte answers a next state, and a later one the fault to which R267 maps Faulted(b), is
the model choice of log 4 (DESIGN CHOICE). (47_system.md R276, R267, 60_exceptions.md R301, 92_eei_decisions.md
D14) -/
def Obligations.IllegalOpcodeFaults : Prop :=
  (∀ (s : State) (b : Byte), b ∈ [0xD3, 0xDB, 0xDD, 0xE3, 0xE4, 0xEB, 0xEC, 0xED, 0xF4, 0xFC, 0xFD] →
    encode (decodeBase b) = [b] ∧ operandBytes (decodeBase b) = 0 ∧
    (s.run = .fetching → (s.ime = false ∨ s.pending = 0) → s.peek s.pc = b →
      step s = .next { s with
        pc := s.pc + 1, run := .faulted b, status := .faulted b, cycles := 0, bus := [.read s.pc] })) ∧
  (∀ (s : State) (b : Byte), s.run = .faulted b → step s = .fault (.illegalOpcode b)) ∧
  (∀ (s : State) (r : ResetRegs), (s.resetEvent r).run = .fetching)

/-- From run state Fetching the meaning of the prefix is, for every second byte b2 at PC (0xCB among them), the
meaning of the extended instruction of b2 at the state with PC past it and run Fetching, and it answers a next
state that is not PrefixPending and reports the cycles of that instruction (2 to 4); no second byte is illegal;
CB CB is SET 1,E; encoding CB. (47_system.md R275, 30_encoding.md R88, 92_eei_decisions.md D22) -/
def Obligations.PrefixRunsTheExtendedInstruction : Prop :=
  encode .prefix_CB = [0xCB] ∧ decodeBase 0xCB = .prefix_CB ∧ decodeExt 0xCB = .set_1_E ∧
  (∀ b : Byte, decodeExt b ∉ illegalRows ∧ decodeExt b ≠ .prefix_CB) ∧
  ∀ s : State, s.run = .fetching →
    exec .prefix_CB s = exec (decodeExt (s.peek s.pc)) s.pastByte ∧
    ∃ t, exec .prefix_CB s = .next t ∧ t.run = .fetching ∧ t.status = .ran ∧ t.pc = s.pc + 1 ∧
      2 ≤ t.cycles ∧ t.cycles ≤ 4

/-- For every vector table, in Fetching or Halted with IME = 1, when i is the least index in 0 to 4 with its bit set
in both IE and IF (bits 7 to 5 are not looked at): the step clears IME and ime_pending, clears bit i of IF and
no other bit, pushes PC (high byte first), goes to entry i of the table, reports (Interrupt(i), 5), makes
exactly the accesses read IF, write IF, write SP - 1, write SP - 2, and changes nothing else (a stack that
overlaps IF overwrites it). The step of the machine is the one with the table 0x0040 + 8 * i (the spec decision
D10; log 9). On any platform, whose peeks of IE and IF decide i, the step makes the same four accesses, with the
byte of IF that the platform answers, and leaves the same registers. (60_exceptions.md R304, R305, R307, R318,
00_scope.md R3, 92_eei_decisions.md D9, D10, D11) -/
def Obligations.InterruptDispatch : Prop :=
  (∀ (vec : Fin 5 → Word) (s : State) (i : Fin 5), (s.run = .fetching ∨ s.run = .halted) → s.ime = true →
    ((s.peek 0xFFFF).getLsbD i.val = true ∧ (s.peek 0xFF0F).getLsbD i.val = true) →
    (∀ j : Fin 5, j < i → ¬ ((s.peek 0xFFFF).getLsbD j.val = true ∧ (s.peek 0xFF0F).getLsbD j.val = true)) →
    ∃ t acknowledged, stepWith vec exec s = .next t ∧
      (∀ k < 8, BitVec.getLsbD acknowledged k = (decide (k ≠ i.val) && (s.peek 0xFF0F).getLsbD k)) ∧
      t.wordAt (s.sp - 2) = s.pc ∧
      (∀ x, x ≠ s.sp - 2 → x ≠ s.sp - 1 → t.peek x = if x = 0xFF0F then acknowledged else s.peek x) ∧
      t = { s with
        ime := false, imePending := false, run := .fetching, sp := s.sp - 2
        pc := vec i, mem := t.mem, status := .interrupt i, cycles := 5
        bus := [.read 0xFF0F, .write 0xFF0F acknowledged, .write (s.sp - 1) (t.peek (s.sp - 1)),
          .write (s.sp - 2) (t.peek (s.sp - 2))] }) ∧
  (∀ s : State, step s = stepWith (fun i => BitVec.ofNat 16 (0x40 + 8 * i.val)) exec s) ∧
  (∀ (σ : Type) (P : Params σ) (s : State) (p : σ) (i : Fin 5), (s.run = .fetching ∨ s.run = .halted) → s.ime = true →
    ((P.bus.peek p 0xFFFF).getLsbD i.val = true ∧ (P.bus.peek p 0xFF0F).getLsbD i.val = true) →
    (∀ j : Fin 5, j < i →
      ¬ ((P.bus.peek p 0xFFFF).getLsbD j.val = true ∧ (P.bus.peek p 0xFF0F).getLsbD j.val = true)) →
    ∃ t q acknowledged, stepOn P s p = .next (t, q) ∧
      (∀ k < 8, BitVec.getLsbD acknowledged k =
        (decide (k ≠ i.val) && BitVec.getLsbD (P.bus.read p 0xFF0F).1 k)) ∧
      t = { s with
        ime := false, imePending := false, run := .fetching, sp := s.sp - 2
        pc := P.intVector i, status := .interrupt i, cycles := 5
        bus := [.read 0xFF0F, .write 0xFF0F acknowledged, .write (s.sp - 1) (s.pc.extractLsb' 8 8),
          .write (s.sp - 2) (s.pc.extractLsb' 0 8)] })

/-- A step reports Interrupt(i) for some i exactly when the core is Fetching or Halted, IME is 1 and IE & IF & 0x1F
is nonzero (never while Stopped or Faulted); whatever stands at PC, an illegal byte among it, is then not
fetched. Stated of states whose run state is not PrefixPending, as the invariant has it. (60_exceptions.md R306,
60_exceptions.md R311) -/
def Obligations.InterruptTakenExactlyWhen : Prop :=
  ∀ (s t : State), s.Inv → step s = .next t →
    ((∃ i, t.status = .interrupt i) ↔
      (s.run = .fetching ∨ s.run = .halted) ∧ s.ime = true ∧ s.peek 0xFFFF &&& s.peek 0xFF0F &&& 0x1F ≠ 0) ∧
    ((∃ i, t.status = .interrupt i) → BusAccess.read s.pc ∈ t.bus → s.pc = 0xFF0F)

/-- After a request of the types of a mask, each bit k of IF below 5 is 1 if it was 1 or is in the mask, bits 7 to 5
and every other byte are as before, and no other part of the state changes: a request never clears a bit.
(20_memory.md R66, 60_exceptions.md R303) -/
def Obligations.RequestsSetOnlyInterruptFlags : Prop :=
  ∀ (s : State) (m : BitVec 5),
    (∀ k < 8, ((s.requestInterrupts m).peek 0xFF0F).getLsbD k = ((s.peek 0xFF0F).getLsbD k || m.getLsbD k)) ∧
    (∀ x, x ≠ 0xFF0F → (s.requestInterrupts m).peek x = s.peek x) ∧
    s.requestInterrupts m = { s with mem := (s.requestInterrupts m).mem }

/-- For every state and every value of RESET_REGS: after reset PC is 0x0000, IME and ime_pending are 0, run is
Fetching, bits 3 to 0 of F are 0, A, F[7:4], B, C, D, E, H, L, SP hold the given values, memory is as before;
the first step fetches the opcode at 0x0000, no interrupt being taken, whatever IE and IF hold.
(70_reset_and_hazards.md section 1 (R340), 92_eei_decisions.md D15) -/
def Obligations.ResetEventLeaves : Prop :=
  ∀ (s : State) (r : ResetRegs),
    let t := s.resetEvent r
    (t.pc = 0x0000 ∧ t.ime = false ∧ t.imePending = false ∧ t.run = .fetching ∧ t.mem = s.mem) ∧
    (t.f &&& 0x0F = 0 ∧ t.f >>> 4 = r.flags.setWidth 8) ∧
    (t.a = r.a ∧ t.b = r.b ∧ t.c = r.c ∧ t.d = r.d ∧ t.e = r.e ∧ t.h = r.h ∧ t.l = r.l ∧ t.sp = r.sp) ∧
    step t = finishInstruction false
      (exec (decodeBase (s.peek 0x0000)) { t with pc := 0x0001, bus := [.read 0x0000] })
end

