-- ==== Sys2Proof/Laws/Bits.lean ====
section
/-! SUPPORT. Halves and concatenation of words, and sign extension, in the terms of `BitVec`. -/

namespace Sys2Proof.Machine

theorem toNat_hi (w : Word) : (hi w).toNat = w.toNat / 256 := by
  have := w.isLt
  simp only [hi, BitVec.toNat_ofNat]
  omega

theorem toNat_lo (w : Word) : (lo w).toNat = w.toNat % 256 := by
  simp [lo]

theorem toNat_cat (h l : Byte) : (cat h l).toNat = 256 * h.toNat + l.toNat := by
  have := h.isLt
  have := l.isLt
  simp only [cat, BitVec.toNat_ofNat]
  omega

@[simp] theorem cat_hi_lo (w : Word) : cat (hi w) (lo w) = w := by
  apply BitVec.eq_of_toNat_eq
  rw [toNat_cat, toNat_hi, toNat_lo]
  omega

@[simp] theorem hi_cat (h l : Byte) : hi (cat h l) = h := by
  have := l.isLt
  apply BitVec.eq_of_toNat_eq
  rw [toNat_hi, toNat_cat]
  omega

@[simp] theorem lo_cat (h l : Byte) : lo (cat h l) = l := by
  have := l.isLt
  apply BitVec.eq_of_toNat_eq
  rw [toNat_lo, toNat_cat]
  omega

/-- `{h, l}` is the concatenation of bit vectors. -/
theorem cat_eq_append (h l : Byte) : cat h l = h ++ l := by
  have := l.isLt
  apply BitVec.eq_of_toNat_eq
  rw [toNat_cat, BitVec.toNat_append, ← Nat.shiftLeft_add_eq_or_of_lt this, Nat.shiftLeft_eq]
  omega

theorem hi_eq_extract (w : Word) : hi w = w.extractLsb' 8 8 := by
  have := w.isLt
  apply BitVec.eq_of_toNat_eq
  rw [toNat_hi, BitVec.extractLsb'_toNat, Nat.shiftRight_eq_div_pow]
  omega

theorem lo_eq_extract (w : Word) : lo w = w.extractLsb' 0 8 := by
  apply BitVec.eq_of_toNat_eq
  rw [toNat_lo, BitVec.extractLsb'_toNat]
  simp

@[simp] theorem hi_append (h l : Byte) : hi (h ++ l) = h := by rw [← cat_eq_append, hi_cat]

@[simp] theorem lo_append (h l : Byte) : lo (h ++ l) = l := by rw [← cat_eq_append, lo_cat]

theorem append_hi_lo (w : Word) : hi w ++ lo w = w := by rw [← cat_eq_append, cat_hi_lo]

theorem signed_eq_toInt (b : Byte) : signed b = b.toInt := by
  rw [signed, BitVec.toInt_eq_toNat_cond]
  split <;> split <;> omega

/-- Adding the sign-extended byte is adding the signed byte modulo 2^16. -/
theorem add_sext16 (w : Word) (b : Byte) : w + sext16 b = BitVec.ofInt 16 ((w.toNat : Int) + b.toInt) := by
  have hb := b.isLt
  have hs : b.getLsbD 7 = decide (128 ≤ b.toNat) := by
    rw [BitVec.getLsbD, Nat.testBit_eq_decide_div_mod_eq]
    congr 1
    apply propext
    omega
  apply BitVec.eq_of_toNat_eq
  rw [BitVec.toNat_ofInt, BitVec.toNat_add, sext16, hs, BitVec.toInt_eq_toNat_cond]
  by_cases h : 128 ≤ b.toNat
  · rw [if_pos (by simpa using h), if_neg (by omega), BitVec.toNat_ofNat]
    omega
  · rw [if_neg (by simpa using h), if_pos (by omega), BitVec.toNat_ofNat]
    omega

theorem highPage_eq_add (n : Byte) : highPage n = 0xFF00 + n.setWidth 16 := by
  have := n.isLt
  apply BitVec.eq_of_toNat_eq
  rw [BitVec.toNat_add, highPage]
  simp

end Sys2Proof.Machine
end

