-- ==== Sys2Proof/Laws/Memory.lean ====
section
/-! SUPPORT. Memory as a list of bytes: reading after writing, and the canonical form, which every write keeps and
which makes equal memories equal lists. -/

namespace Sys2Proof.Machine

theorem Memory.read_remove (m : Memory) (a x : Nat) :
    Memory.read (Memory.remove a m) x = if x = a then Config.unlistedByte else Memory.read m x := by
  induction m with
  | nil => simp [Memory.remove, Memory.read]
  | cons e rest ih =>
    obtain ⟨k, w⟩ := e
    simp only [Memory.remove]
    split
    · next h =>
      rw [ih]
      by_cases hx : x = a
      · simp [hx]
      · rw [if_neg hx, if_neg hx, Memory.read, if_neg (by omega)]
    · next h =>
      simp only [Memory.read, ih]
      by_cases hk : k = x
      · rw [if_pos hk, if_pos hk, if_neg (by omega)]
      · rw [if_neg hk, if_neg hk]

theorem Memory.read_insert (m : Memory) (a x : Nat) (v : Byte) (hm : ∀ e ∈ m, e.1 ≠ a) :
    Memory.read (Memory.insert a v m) x = if x = a then v else Memory.read m x := by
  induction m with
  | nil => simp [Memory.insert, Memory.read, eq_comm]
  | cons e rest ih =>
    obtain ⟨k, w⟩ := e
    have hk : k ≠ a := hm (k, w) (by simp)
    simp only [Memory.insert]
    split
    · simp [Memory.read, eq_comm]
    · simp only [Memory.read, ih fun e he => hm e (by simp [he])]
      by_cases hx : k = x
      · rw [if_pos hx, if_pos hx, if_neg (by omega)]
      · rw [if_neg hx, if_neg hx]

theorem Memory.remove_ne (m : Memory) (a : Nat) : ∀ e ∈ Memory.remove a m, e.1 ≠ a := by
  induction m with
  | nil => simp [Memory.remove]
  | cons e rest ih =>
    obtain ⟨k, w⟩ := e
    simp only [Memory.remove]
    split
    · exact ih
    · next h => simpa using ⟨h, fun x y hxy => ih (x, y) hxy⟩

/-- A write changes the byte at its address and no other byte, on every list. -/
theorem Memory.read_write (m : Memory) (a x : Nat) (v : Byte) :
    Memory.read (Memory.write m a v) x = if x = a then v else Memory.read m x := by
  rw [Memory.write]
  split
  · next h => rw [Memory.read_remove, h]
  · rw [Memory.read_insert _ _ _ _ (Memory.remove_ne m a), Memory.read_remove]
    split <;> rfl

theorem Memory.wfFrom_mono {lo lo' : Nat} {m : Memory} (h : lo' ≤ lo) (hm : Memory.wfFrom lo m = true) :
    Memory.wfFrom lo' m = true := by
  cases m with
  | nil => rfl
  | cons e rest =>
    simp only [Memory.wfFrom, Bool.and_eq_true, decide_eq_true_eq] at hm ⊢
    exact ⟨⟨⟨by omega, hm.1.1.2⟩, hm.1.2⟩, hm.2⟩

theorem Memory.wfFrom_remove (m : Memory) (lo a : Nat) (hm : Memory.wfFrom lo m = true) :
    Memory.wfFrom lo (Memory.remove a m) = true := by
  induction m generalizing lo with
  | nil => rfl
  | cons e rest ih =>
    obtain ⟨k, w⟩ := e
    simp only [Memory.wfFrom, Bool.and_eq_true, decide_eq_true_eq] at hm
    simp only [Memory.remove]
    split
    · exact Memory.wfFrom_mono (by omega) (ih _ hm.2)
    · simp only [Memory.wfFrom, Bool.and_eq_true, decide_eq_true_eq]
      exact ⟨hm.1, ih _ hm.2⟩

theorem Memory.wfFrom_insert (m : Memory) (lo a : Nat) (v : Byte) (hlo : lo ≤ a) (ha : a < 65536)
    (hv : v ≠ Config.unlistedByte) (hne : ∀ e ∈ m, e.1 ≠ a) (hm : Memory.wfFrom lo m = true) :
    Memory.wfFrom lo (Memory.insert a v m) = true := by
  induction m generalizing lo with
  | nil => simp [Memory.insert, Memory.wfFrom, hlo, ha, hv]
  | cons e rest ih =>
    obtain ⟨k, w⟩ := e
    have hk : k ≠ a := hne (k, w) (by simp)
    simp only [Memory.wfFrom, Bool.and_eq_true, decide_eq_true_eq] at hm
    simp only [Memory.insert]
    split
    · next h =>
      simp only [Memory.wfFrom, Bool.and_eq_true, decide_eq_true_eq]
      exact ⟨⟨⟨hlo, ha⟩, hv⟩, ⟨⟨by omega, hm.1.1.2⟩, hm.1.2⟩, hm.2⟩
    · next h =>
      simp only [Memory.wfFrom, Bool.and_eq_true, decide_eq_true_eq]
      exact ⟨hm.1, ih _ (by omega) (fun e he => hne e (by simp [he])) hm.2⟩

/-- A write keeps the canonical form. -/
theorem Memory.wf_write (m : Memory) (a : Nat) (v : Byte) (ha : a < 65536) (hm : Memory.wf m = true) :
    Memory.wf (Memory.write m a v) = true := by
  rw [Memory.write]
  split
  · exact Memory.wfFrom_remove m 0 a hm
  · next h =>
    exact Memory.wfFrom_insert _ 0 a v (by omega) ha h (Memory.remove_ne m a) (Memory.wfFrom_remove m 0 a hm)

theorem Memory.wf_write_word (m : Memory) (a : Word) (v : Byte) (hm : Memory.wf m = true) :
    Memory.wf (Memory.write m a.toNat v) = true :=
  Memory.wf_write m a.toNat v a.isLt hm

theorem Memory.read_below {lo x : Nat} {m : Memory} (hm : Memory.wfFrom lo m = true) (hx : x < lo) :
    Memory.read m x = Config.unlistedByte := by
  induction m generalizing lo with
  | nil => rfl
  | cons e rest ih =>
    obtain ⟨k, w⟩ := e
    simp only [Memory.wfFrom, Bool.and_eq_true, decide_eq_true_eq] at hm
    rw [Memory.read, if_neg (by omega)]
    exact ih hm.2 (by omega)

/-- Two memories in canonical form that read alike from an address on are equal. -/
theorem Memory.ext_from (m n : Memory) (lo : Nat) (hm : Memory.wfFrom lo m = true) (hn : Memory.wfFrom lo n = true)
    (h : ∀ x < 65536, lo ≤ x → Memory.read m x = Memory.read n x) : m = n := by
  induction m generalizing lo n with
  | nil =>
    cases n with
    | nil => rfl
    | cons e rest =>
      obtain ⟨k, w⟩ := e
      simp only [Memory.wfFrom, Bool.and_eq_true, decide_eq_true_eq] at hn
      have := h k hn.1.1.2 hn.1.1.1
      rw [Memory.read, Memory.read, if_pos rfl] at this
      exact absurd this.symm hn.1.2
  | cons e rest ih =>
    obtain ⟨k, w⟩ := e
    simp only [Memory.wfFrom, Bool.and_eq_true, decide_eq_true_eq] at hm
    cases n with
    | nil =>
      have := h k hm.1.1.2 hm.1.1.1
      rw [Memory.read, Memory.read, if_pos rfl] at this
      exact absurd this hm.1.2
    | cons e' rest' =>
      obtain ⟨k', w'⟩ := e'
      simp only [Memory.wfFrom, Bool.and_eq_true, decide_eq_true_eq] at hn
      have hkk : k = k' := by
        rcases Nat.lt_trichotomy k k' with hlt | heq | hgt
        · have := h k hm.1.1.2 hm.1.1.1
          rw [Memory.read, if_pos rfl, Memory.read, if_neg (by omega), Memory.read_below hn.2 (by omega)] at this
          exact absurd this hm.1.2
        · exact heq
        · have := h k' hn.1.1.2 hn.1.1.1
          rw [Memory.read, if_neg (by omega), Memory.read_below hm.2 (by omega), Memory.read, if_pos rfl] at this
          exact absurd this.symm hn.1.2
      subst hkk
      have hww : w = w' := by simpa [Memory.read] using h k hm.1.1.2 hm.1.1.1
      subst hww
      have := ih rest' (k + 1) hm.2 hn.2 fun x hx hlo => by
        have := h x hx (by omega)
        rwa [Memory.read, if_neg (by omega), Memory.read, if_neg (by omega)] at this
      rw [this]

theorem Memory.ext_of_wf (m n : Memory) (hm : Memory.wf m = true) (hn : Memory.wf n = true)
    (h : ∀ x : Word, Memory.read m x.toNat = Memory.read n x.toNat) : m = n :=
  Memory.ext_from m n 0 hm hn fun x hx _ => by
    simpa [Nat.mod_eq_of_lt hx] using h (BitVec.ofNat 16 x)

theorem reset_memory_wf : Memory.wf State.reset.mem = true := rfl

theorem wf_loadCells (cells : List (Word × Byte)) : Memory.wf (loadCells cells) = true := by
  induction cells with
  | nil => rfl
  | cons e rest ih => exact Memory.wf_write_word _ _ _ ih

theorem replay_append (m : Memory) (p q : List BusAccess) : replay m (p ++ q) = replay (replay m p) q := by
  induction p generalizing m with
  | nil => rfl
  | cons e rest ih => cases e <;> simp [replay, ih]

theorem wf_replay (m : Memory) (p : List BusAccess) (hm : Memory.wf m = true) : Memory.wf (replay m p) = true := by
  induction p generalizing m with
  | nil => exact hm
  | cons e rest ih =>
    cases e with
    | read a => exact ih m hm
    | write a v => exact ih _ (Memory.wf_write_word m a v hm)

end Sys2Proof.Machine
end

