-- ==== Sys2Proof/Laws/Bus.lean ====
section
/-! SUPPORT. Programs of bus accesses: what every program does on every bus, whatever it computes. It extends the trace
by its accesses and leaves the platform that these accesses make; a property of all its results holds of its result;
two platforms that answer its reads alike lead it to the same result. -/

namespace Sys2Proof.Machine

variable {α σ τ : Type}

/-! ### the trace -/

theorem performOn_append (β : Bus σ) (p : σ) (q r : List BusAccess) :
    performOn β p (q ++ r) = performOn β (performOn β p q) r := by
  induction q generalizing p with
  | nil => rfl
  | cons e rest ih => cases e <;> exact ih _

/-- The default bus performs a trace as `replay` does. -/
theorem performOn_flatBus (m : Memory) (q : List BusAccess) : performOn flatBus m q = replay m q := by
  induction q generalizing m with
  | nil => rfl
  | cons e rest ih => cases e <;> exact ih _

/-- The accesses of a program, from the platform `p`. -/
def BusProg.trace (β : Bus σ) : BusProg α → σ → List BusAccess
  | .done _, _ => []
  | .read a k, p => .read a :: (k (β.read p a).1).trace β (β.read p a).2
  | .write a v k, p => .write a v :: k.trace β (β.write p a v)

/-- The result of a program, from the platform `p`. -/
def BusProg.result (β : Bus σ) : BusProg α → σ → α
  | .done x, _ => x
  | .read a k, p => (k (β.read p a).1).result β (β.read p a).2
  | .write a v k, p => k.result β (β.write p a v)

/-- A program extends the trace by its accesses, and leaves the platform that they make. -/
theorem BusProg.runOn_eq (β : Bus σ) (P : BusProg α) (p : σ) (tr : List BusAccess) :
    P.runOn β p tr = (P.result β p, performOn β p (P.trace β p), tr ++ P.trace β p) := by
  induction P generalizing p tr with
  | done x => simp [runOn, result, trace, performOn]
  | read a k ih => simp [runOn, result, trace, performOn, ih]
  | write a v k ih => simp [runOn, result, trace, performOn, ih]

/-- The answers decide: on a platform that answers the reads of a program's trace with the same bytes, the program has the
same trace and the same result. -/
theorem BusProg.same_answers (β : Bus σ) (γ : Bus τ) (P : BusProg α) (p : σ) (q : τ)
    (h : answersOn γ q (P.trace β p) = answersOn β p (P.trace β p)) :
    P.trace γ q = P.trace β p ∧ P.result γ q = P.result β p := by
  induction P generalizing p q with
  | done x => exact ⟨rfl, rfl⟩
  | read a k ih =>
    simp only [trace, answersOn, List.cons.injEq] at h
    obtain ⟨ht, hr⟩ := ih (β.read p a).1 (β.read p a).2 (γ.read q a).2 h.2
    simp only [trace, result, h.1, ht, hr, and_self]
  | write a v k ih =>
    simp only [trace, answersOn] at h
    obtain ⟨ht, hr⟩ := ih (β.write p a v) (γ.write q a v) h
    simp only [trace, result, ht, hr, and_self]

/-! ### properties of every result -/

/-- `Q` holds of the result, whatever bytes the bus answers. -/
def BusProg.All (Q : α → Prop) : BusProg α → Prop
  | .done x => Q x
  | .read _ k => ∀ v, (k v).All Q
  | .write _ _ k => k.All Q

theorem BusProg.All.result {Q : α → Prop} {P : BusProg α} (h : P.All Q) (β : Bus σ) (p : σ) : Q (P.result β p) := by
  induction P generalizing p with
  | done x => exact h
  | read a k ih => exact ih _ (h _) _
  | write a v k ih => exact ih h _

theorem BusProg.All.imp {Q R : α → Prop} {P : BusProg α} (h : P.All Q) (hQR : ∀ x, Q x → R x) : P.All R := by
  induction P with
  | done x => exact hQR x h
  | read a k ih => exact fun v => ih v (h v)
  | write a v k ih => exact ih h

/-! ### programs up to what they leave in memory and trace -/

/-- `g` applied to the result. -/
def BusProg.map {γ : Type} (g : α → γ) : BusProg α → BusProg γ
  | .done x => .done (g x)
  | .read a k => .read a fun v => (k v).map g
  | .write a v k => .write a v (k.map g)

theorem BusProg.result_map {γ : Type} (g : α → γ) (β : Bus σ) (P : BusProg α) (p : σ) :
    (P.map g).result β p = g (P.result β p) := by
  induction P generalizing p with
  | done x => rfl
  | read a k ih => exact ih _ _
  | write a v k ih => exact ih _

theorem BusProg.trace_map {γ : Type} (g : α → γ) (β : Bus σ) (P : BusProg α) (p : σ) :
    (P.map g).trace β p = P.trace β p := by
  induction P generalizing p with
  | done x => rfl
  | read a k ih => exact congrArg _ (ih _ _)
  | write a v k ih => exact congrArg _ (ih _)

/-- The core without memory and trace. -/
def State.bare (s : State) : State := { s with mem := [], bus := [] }

/-- Two programs are alike when they make the same accesses and end in states that agree but in memory and trace. -/
def BusProg.Alike (P Q : BusProg State) : Prop := P.map State.bare = Q.map State.bare

theorem State.eq_of_bare {s t : State} (h : s.bare = t.bare) (m : Memory) (tr : List BusAccess) :
    { s with mem := m, bus := tr } = { t with mem := m, bus := tr } := by
  cases s
  cases t
  simp only [State.bare, State.mk.injEq, and_true] at h ⊢
  exact h

theorem BusProg.Alike.trace {P Q : BusProg State} (h : P.Alike Q) (β : Bus σ) (p : σ) :
    P.trace β p = Q.trace β p := by
  rw [← BusProg.trace_map State.bare β P p, h, BusProg.trace_map]

theorem BusProg.Alike.result {P Q : BusProg State} (h : P.Alike Q) (β : Bus σ) (p : σ) :
    (P.result β p).bare = (Q.result β p).bare := by
  rw [← BusProg.result_map State.bare β P p, h, BusProg.result_map]

/-! ### on the default bus -/

/-- What an effect leaves on the default bus: its result, with the memory and the trace that its accesses make. -/
theorem onFlat_eq (effect : State → BusProg State) (s : State) :
    onFlat effect s = { (effect s).result flatBus s.mem with
      mem := replay s.mem ((effect s).trace flatBus s.mem), bus := s.bus ++ (effect s).trace flatBus s.mem } := by
  simp only [onFlat, BusProg.runOn_eq, performOn_flatBus]

/-- A property of every result of an effect that does not look at memory or the trace holds of the state it leaves. -/
theorem BusProg.All.onFlat {Q : State → Prop} {effect : State → BusProg State} {s : State} (h : (effect s).All Q)
    (hQ : ∀ (t : State) (m : Memory) (tr : List BusAccess), Q t → Q { t with mem := m, bus := tr }) :
    Q (onFlat effect s) := by
  rw [onFlat_eq]
  exact hQ _ _ _ (h.result _ _)

/-- Effects whose programs are alike leave the same state. -/
theorem BusProg.Alike.onFlat {e e' : State → BusProg State} {s : State} (h : (e s).Alike (e' s)) :
    onFlat e s = onFlat e' s := by
  rw [onFlat_eq, onFlat_eq, h.trace]
  exact State.eq_of_bare (h.result _ _) _ _

@[simp] theorem onFlat_done (f : State → State) (s : State) :
    onFlat (fun s => .done (f s)) s = { f s with mem := s.mem, bus := s.bus } := rfl

/-- On the default bus a program is run from the memory of the state. -/
theorem runOn_flatBus (s t : State) (P : State → BusProg State) :
    t.runOn flatBus (P s) t.mem =
      ({ (P s).result flatBus t.mem with bus := t.bus ++ (P s).trace flatBus t.mem },
        replay t.mem ((P s).trace flatBus t.mem)) := by
  simp only [State.runOn, BusProg.runOn_eq, performOn_flatBus]

end Sys2Proof.Machine
end

