-- ==== Sys2Proof/Laws/Exec.lean ====
section
/-! SUPPORT. What `exec` answers, said once: on the row of every form it answers the state that the form's effect leaves
on the default bus, and every instruction is the row of a form. -/

namespace Sys2Proof.Machine

/-! ### the forms with operand selectors -/

theorem exec_ldR16Imm (x : R16) (s : State) : exec (Row.ldR16Imm x) s = .next (onFlat (ldR16Imm x) s) := by
  cases x <;> rfl

theorem exec_ldMemA (x : R16Mem) (s : State) : exec (Row.ldMemA x) s = .next (onFlat (ldMemA x) s) := by
  cases x <;> rfl

theorem exec_incR16 (x : R16) (s : State) : exec (Row.incR16 x) s = .next (onFlat (incR16 x) s) := by
  cases x <;> rfl

theorem exec_incReg (x : Reg) (s : State) : exec (Row.incReg x) s = .next (onFlat (incReg x) s) := by
  cases x <;> rfl

theorem exec_decReg (x : Reg) (s : State) : exec (Row.decReg x) s = .next (onFlat (decReg x) s) := by
  cases x <;> rfl

theorem exec_ldRegImm (x : Reg) (s : State) : exec (Row.ldRegImm x) s = .next (onFlat (ldRegImm x) s) := by
  cases x <;> rfl

theorem exec_addHLR16 (x : R16) (s : State) : exec (Row.addHLR16 x) s = .next (onFlat (addHLR16 x) s) := by
  cases x <;> rfl

theorem exec_ldAMem (x : R16Mem) (s : State) : exec (Row.ldAMem x) s = .next (onFlat (ldAMem x) s) := by
  cases x <;> rfl

theorem exec_decR16 (x : R16) (s : State) : exec (Row.decR16 x) s = .next (onFlat (decR16 x) s) := by
  cases x <;> rfl

theorem exec_jrCond (x : Cond) (s : State) : exec (Row.jrCond x) s = .next (onFlat (jrCond x) s) := by
  cases x <;> rfl

theorem exec_ldRegReg (x : Reg) (y : Reg) (s : State) : exec (Row.ldRegReg x y) s = .next (onFlat (ldRegReg x y) s) := by
  cases x <;> cases y <;> rfl

theorem exec_ldRegAtHL (x : Reg) (s : State) : exec (Row.ldRegAtHL x) s = .next (onFlat (ldRegAtHL x) s) := by
  cases x <;> rfl

theorem exec_ldAtHLReg (x : Reg) (s : State) : exec (Row.ldAtHLReg x) s = .next (onFlat (ldAtHLReg x) s) := by
  cases x <;> rfl

theorem exec_aluReg (x : AluOp) (y : Reg) (s : State) : exec (Row.aluReg x y) s = .next (onFlat (aluReg x y) s) := by
  cases x <;> cases y <;> rfl

theorem exec_aluAtHL (x : AluOp) (s : State) : exec (Row.aluAtHL x) s = .next (onFlat (aluAtHL x) s) := by
  cases x <;> rfl

theorem exec_retCond (x : Cond) (s : State) : exec (Row.retCond x) s = .next (onFlat (retCond x) s) := by
  cases x <;> rfl

theorem exec_pop (x : R16Stk) (s : State) : exec (Row.pop x) s = .next (onFlat (pop x) s) := by
  cases x <;> rfl

theorem exec_jpCond (x : Cond) (s : State) : exec (Row.jpCond x) s = .next (onFlat (jpCond x) s) := by
  cases x <;> rfl

theorem exec_callCond (x : Cond) (s : State) : exec (Row.callCond x) s = .next (onFlat (callCond x) s) := by
  cases x <;> rfl

theorem exec_push (x : R16Stk) (s : State) : exec (Row.push x) s = .next (onFlat (push x) s) := by
  cases x <;> rfl

theorem exec_aluImm (x : AluOp) (s : State) : exec (Row.aluImm x) s = .next (onFlat (aluImm x) s) := by
  cases x <;> rfl

theorem exec_rst (x : Idx3) (s : State) : exec (Row.rst x) s = .next (onFlat (rst x) s) := by
  cases x <;> rfl

theorem exec_rotReg (x : RotOp) (y : Reg) (s : State) : exec (Row.rotReg x y) s = .next (onFlat (rotReg x y) s) := by
  cases x <;> cases y <;> rfl

theorem exec_rotAtHL (x : RotOp) (s : State) : exec (Row.rotAtHL x) s = .next (onFlat (rotAtHL x) s) := by
  cases x <;> rfl

theorem exec_bitReg (x : Idx3) (y : Reg) (s : State) : exec (Row.bitReg x y) s = .next (onFlat (bitReg x y) s) := by
  cases x <;> cases y <;> rfl

theorem exec_bitAtHL (x : Idx3) (s : State) : exec (Row.bitAtHL x) s = .next (onFlat (bitAtHL x) s) := by
  cases x <;> rfl

theorem exec_resReg (x : Idx3) (y : Reg) (s : State) : exec (Row.resReg x y) s = .next (onFlat (resReg x y) s) := by
  cases x <;> cases y <;> rfl

theorem exec_resAtHL (x : Idx3) (s : State) : exec (Row.resAtHL x) s = .next (onFlat (resAtHL x) s) := by
  cases x <;> rfl

theorem exec_setBitReg (x : Idx3) (y : Reg) (s : State) : exec (Row.setBitReg x y) s = .next (onFlat (setBitReg x y) s) := by
  cases x <;> cases y <;> rfl

theorem exec_setBitAtHL (x : Idx3) (s : State) : exec (Row.setBitAtHL x) s = .next (onFlat (setBitAtHL x) s) := by
  cases x <;> rfl

/-! ### the prefix -/

theorem extRotReg_eq (op : RotOp) (r : Reg) (s : State) : extRotReg op r s = exec (Row.rotReg op r) s := by
  cases op <;> cases r <;> rfl

theorem extRotAtHL_eq (op : RotOp) (s : State) : extRotAtHL op s = exec (Row.rotAtHL op) s := by
  cases op <;> rfl

theorem extBitReg_eq (i : Idx3) (r : Reg) (s : State) : extBitReg i r s = exec (Row.bitReg i r) s := by
  cases i <;> cases r <;> rfl

theorem extBitAtHL_eq (i : Idx3) (s : State) : extBitAtHL i s = exec (Row.bitAtHL i) s := by
  cases i <;> rfl

theorem extResReg_eq (i : Idx3) (r : Reg) (s : State) : extResReg i r s = exec (Row.resReg i r) s := by
  cases i <;> cases r <;> rfl

theorem extResAtHL_eq (i : Idx3) (s : State) : extResAtHL i s = exec (Row.resAtHL i) s := by
  cases i <;> rfl

theorem extSetBitReg_eq (i : Idx3) (r : Reg) (s : State) : extSetBitReg i r s = exec (Row.setBitReg i r) s := by
  cases i <;> cases r <;> rfl

theorem extSetBitAtHL_eq (i : Idx3) (s : State) : extSetBitAtHL i s = exec (Row.setBitAtHL i) s := by
  cases i <;> rfl

/-- The meaning of the second byte is `exec` of the extended instruction. -/
theorem execExtended_eq (b : Byte) (s : State) : execExtended b s = exec (decodeExt b) s := by
  unfold execExtended decodeExt
  cases extForm b with
  | rotReg op r => exact extRotReg_eq op r s
  | rotAtHL op => exact extRotAtHL_eq op s
  | bitReg i r => exact extBitReg_eq i r s
  | bitAtHL i => exact extBitAtHL_eq i s
  | resReg i r => exact extResReg_eq i r s
  | resAtHL i => exact extResAtHL_eq i s
  | setBitReg i r => exact extSetBitReg_eq i r s
  | setBitAtHL i => exact extSetBitAtHL_eq i s

/-- The prefix runs the extended instruction of the byte at PC, in the run state `Fetching`. -/
theorem exec_prefix (s : State) :
    exec .prefix_CB s =
      exec (decodeExt (s.peek s.pc)) { s with run := .fetching, pc := s.pc + 1, bus := s.bus ++ [.read s.pc] } :=
  execExtended_eq _ _

/-! ### an effect looks at memory and trace through the bus alone -/

theorem extProg_alike (e : ExtForm) (s : State) (m : Memory) (tr : List BusAccess) :
    (extProg e { s with mem := m, bus := tr }).Alike (extProg e s) := by
  cases e with
  | rotReg op r => cases r <;> rfl
  | bitReg i r => rfl
  | resReg i r => cases r <;> rfl
  | setBitReg i r => cases r <;> rfl
  | _ => rfl

theorem alike_ite (c c' : Bool) (P P' Q Q' : BusProg State) (hc : c = c') (hP : P.Alike P') (hQ : Q.Alike Q') :
    (if c then P else Q).Alike (if c' then P' else Q') := by
  subst hc
  cases c
  · exact hQ
  · exact hP

theorem alike_read {k k' : Byte → BusProg State} (a : Word) (h : ∀ v, (k v).Alike (k' v)) :
    (BusProg.read a k).Alike (.read a k') :=
  congrArg (BusProg.read a) (funext h)

/-- The effect of a form does not depend on the memory and the trace that its state carries. -/
theorem formProg_alike (f : Form) (s : State) (m : Memory) (tr : List BusAccess) :
    (formProg f { s with mem := m, bus := tr }).Alike (formProg f s) := by
  cases f with
  | ext e => exact extProg_alike e s m tr
  | prefixCB => exact alike_read _ fun v => extProg_alike (extForm v) { s with run := .fetching, pc := s.pc + 1 } m tr
  | jrCond cc => exact alike_read _ fun v => alike_ite _ _ _ _ _ _ (by cases cc <;> rfl) rfl rfl
  | jpCond cc => exact alike_read _ fun v => alike_read _ fun w => alike_ite _ _ _ _ _ _ (by cases cc <;> rfl) rfl rfl
  | callCond cc => exact alike_read _ fun v => alike_read _ fun w => alike_ite _ _ _ _ _ _ (by cases cc <;> rfl) rfl rfl
  | retCond cc => exact alike_ite _ _ _ _ _ _ (by cases cc <;> rfl) rfl rfl
  | ldRegReg x y => cases x <;> rfl
  | ldRegAtHL x => cases x <;> rfl
  | ldRegImm x => cases x <;> rfl
  | ldMemA x => cases x <;> rfl
  | ldAMem x => cases x <;> rfl
  | ldR16Imm x => cases x <;> rfl
  | incR16 x => cases x <;> rfl
  | decR16 x => cases x <;> rfl
  | aluReg x y => cases x <;> rfl
  | aluAtHL x => cases x <;> rfl
  | aluImm x => cases x <;> rfl
  | incReg x => cases x <;> rfl
  | decReg x => cases x <;> rfl
  | pop x => cases x <;> rfl
  | _ => rfl

/-! ### every form -/

/-- `exec` on the row of a form of the extended table. -/
theorem exec_extForm (e : ExtForm) (s : State) : exec e.row s = .next (onFlat (extProg e) s) := by
  cases e with
  | rotReg op r => exact exec_rotReg op r s
  | rotAtHL op => exact exec_rotAtHL op s
  | bitReg i r => exact exec_bitReg i r s
  | bitAtHL i => exact exec_bitAtHL i s
  | resReg i r => exact exec_resReg i r s
  | resAtHL i => exact exec_resAtHL i s
  | setBitReg i r => exact exec_setBitReg i r s
  | setBitAtHL i => exact exec_setBitAtHL i s

/-- `exec` on the row of a form answers the state that the form's effect leaves on the default bus. -/
theorem exec_formRow (f : Form) (s : State) : exec f.row s = .next (onFlat (formProg f) s) := by
  cases f with
  | ext e => exact exec_extForm e s
  | prefixCB =>
    rw [Form.row, exec_prefix, decodeExt, exec_extForm]
    congr 1
    have h := extProg_alike (extForm (s.peek s.pc)) { s with run := .fetching, pc := s.pc + 1 } s.mem
      (s.bus ++ [.read s.pc])
    simp only [onFlat_eq]
    rw [h.trace, State.eq_of_bare (h.result _ _)]
    simp only [formProg, prefixed, State.fetch8, BusProg.result, BusProg.trace, replay, List.append_assoc,
      List.cons_append, List.nil_append]
    rfl
  | illegal x => cases x <;> rfl
  | ldR16Imm x => exact exec_ldR16Imm x s
  | ldMemA x => exact exec_ldMemA x s
  | incR16 x => exact exec_incR16 x s
  | incReg x => exact exec_incReg x s
  | decReg x => exact exec_decReg x s
  | ldRegImm x => exact exec_ldRegImm x s
  | addHLR16 x => exact exec_addHLR16 x s
  | ldAMem x => exact exec_ldAMem x s
  | decR16 x => exact exec_decR16 x s
  | jrCond x => exact exec_jrCond x s
  | ldRegReg x y => exact exec_ldRegReg x y s
  | ldRegAtHL x => exact exec_ldRegAtHL x s
  | ldAtHLReg x => exact exec_ldAtHLReg x s
  | aluReg x y => exact exec_aluReg x y s
  | aluAtHL x => exact exec_aluAtHL x s
  | retCond x => exact exec_retCond x s
  | pop x => exact exec_pop x s
  | jpCond x => exact exec_jpCond x s
  | callCond x => exact exec_callCond x s
  | push x => exact exec_push x s
  | aluImm x => exact exec_aluImm x s
  | rst x => exact exec_rst x s
  | _ => rfl

/-- The form of an instruction, as its opcode byte decodes. -/
def formOf (i : Instr) : Form :=
  match encode i with
  | [b] => baseForm b
  | [_, b] => .ext (extForm b)
  | _ => .nop

/-- Every instruction is the row of its form. -/
theorem row_formOf (i : Instr) : (formOf i).row = i := by
  cases i <;> rfl

/-- `exec` on any instruction answers a next state: what the effect of its form leaves on the default bus. -/
theorem exec_eq (i : Instr) (s : State) : exec i s = .next (onFlat (formProg (formOf i)) s) := by
  have h := exec_formRow (formOf i) s
  rwa [row_formOf] at h

end Sys2Proof.Machine
end

