-- ==== Sys2Proof/Laws/State.lean ====
section
/-! SUPPORT. For each update of the state, what each field is after it: one lemma per field, true by unfolding, so that
no proof unfolds a record update. -/

namespace Sys2Proof.Machine

variable (s : State)

/-! ### a byte read -/

@[simp] theorem memRead_a (a : Word) : ((s.memRead a).2).a = s.a := rfl
@[simp] theorem memRead_f (a : Word) : ((s.memRead a).2).f = s.f := rfl
@[simp] theorem memRead_b (a : Word) : ((s.memRead a).2).b = s.b := rfl
@[simp] theorem memRead_c (a : Word) : ((s.memRead a).2).c = s.c := rfl
@[simp] theorem memRead_d (a : Word) : ((s.memRead a).2).d = s.d := rfl
@[simp] theorem memRead_e (a : Word) : ((s.memRead a).2).e = s.e := rfl
@[simp] theorem memRead_h (a : Word) : ((s.memRead a).2).h = s.h := rfl
@[simp] theorem memRead_l (a : Word) : ((s.memRead a).2).l = s.l := rfl
@[simp] theorem memRead_sp (a : Word) : ((s.memRead a).2).sp = s.sp := rfl
@[simp] theorem memRead_pc (a : Word) : ((s.memRead a).2).pc = s.pc := rfl
@[simp] theorem memRead_ime (a : Word) : ((s.memRead a).2).ime = s.ime := rfl
@[simp] theorem memRead_imePending (a : Word) : ((s.memRead a).2).imePending = s.imePending := rfl
@[simp] theorem memRead_run (a : Word) : ((s.memRead a).2).run = s.run := rfl
@[simp] theorem memRead_mem (a : Word) : ((s.memRead a).2).mem = s.mem := rfl
@[simp] theorem memRead_status (a : Word) : ((s.memRead a).2).status = s.status := rfl
@[simp] theorem memRead_cycles (a : Word) : ((s.memRead a).2).cycles = s.cycles := rfl
@[simp] theorem memRead_bus (a : Word) : ((s.memRead a).2).bus = s.bus ++ [.read a] := rfl

@[simp] theorem memRead_value (a : Word) : (s.memRead a).1 = s.peek a := rfl

/-! ### a byte written -/

@[simp] theorem memWrite_a (a : Word) (v : Byte) : (s.memWrite a v).a = s.a := rfl
@[simp] theorem memWrite_f (a : Word) (v : Byte) : (s.memWrite a v).f = s.f := rfl
@[simp] theorem memWrite_b (a : Word) (v : Byte) : (s.memWrite a v).b = s.b := rfl
@[simp] theorem memWrite_c (a : Word) (v : Byte) : (s.memWrite a v).c = s.c := rfl
@[simp] theorem memWrite_d (a : Word) (v : Byte) : (s.memWrite a v).d = s.d := rfl
@[simp] theorem memWrite_e (a : Word) (v : Byte) : (s.memWrite a v).e = s.e := rfl
@[simp] theorem memWrite_h (a : Word) (v : Byte) : (s.memWrite a v).h = s.h := rfl
@[simp] theorem memWrite_l (a : Word) (v : Byte) : (s.memWrite a v).l = s.l := rfl
@[simp] theorem memWrite_sp (a : Word) (v : Byte) : (s.memWrite a v).sp = s.sp := rfl
@[simp] theorem memWrite_pc (a : Word) (v : Byte) : (s.memWrite a v).pc = s.pc := rfl
@[simp] theorem memWrite_ime (a : Word) (v : Byte) : (s.memWrite a v).ime = s.ime := rfl
@[simp] theorem memWrite_imePending (a : Word) (v : Byte) : (s.memWrite a v).imePending = s.imePending := rfl
@[simp] theorem memWrite_run (a : Word) (v : Byte) : (s.memWrite a v).run = s.run := rfl
@[simp] theorem memWrite_mem (a : Word) (v : Byte) : (s.memWrite a v).mem = Memory.write s.mem a.toNat v := rfl
@[simp] theorem memWrite_status (a : Word) (v : Byte) : (s.memWrite a v).status = s.status := rfl
@[simp] theorem memWrite_cycles (a : Word) (v : Byte) : (s.memWrite a v).cycles = s.cycles := rfl
@[simp] theorem memWrite_bus (a : Word) (v : Byte) : (s.memWrite a v).bus = s.bus ++ [.write a v] := rfl

/-! ### a fetched byte, as the statements name it -/

@[simp] theorem pastByte_a : (s.pastByte).a = s.a := rfl
@[simp] theorem pastByte_f : (s.pastByte).f = s.f := rfl
@[simp] theorem pastByte_b : (s.pastByte).b = s.b := rfl
@[simp] theorem pastByte_c : (s.pastByte).c = s.c := rfl
@[simp] theorem pastByte_d : (s.pastByte).d = s.d := rfl
@[simp] theorem pastByte_e : (s.pastByte).e = s.e := rfl
@[simp] theorem pastByte_h : (s.pastByte).h = s.h := rfl
@[simp] theorem pastByte_l : (s.pastByte).l = s.l := rfl
@[simp] theorem pastByte_sp : (s.pastByte).sp = s.sp := rfl
@[simp] theorem pastByte_pc : (s.pastByte).pc = s.pc + 1 := rfl
@[simp] theorem pastByte_ime : (s.pastByte).ime = s.ime := rfl
@[simp] theorem pastByte_imePending : (s.pastByte).imePending = s.imePending := rfl
@[simp] theorem pastByte_run : (s.pastByte).run = s.run := rfl
@[simp] theorem pastByte_mem : (s.pastByte).mem = s.mem := rfl
@[simp] theorem pastByte_status : (s.pastByte).status = s.status := rfl
@[simp] theorem pastByte_cycles : (s.pastByte).cycles = s.cycles := rfl
@[simp] theorem pastByte_bus : (s.pastByte).bus = s.bus ++ [.read s.pc] := rfl

/-! ### a fetched word, as the statements name it -/

@[simp] theorem pastWord_a : (s.pastWord).a = s.a := rfl
@[simp] theorem pastWord_f : (s.pastWord).f = s.f := rfl
@[simp] theorem pastWord_b : (s.pastWord).b = s.b := rfl
@[simp] theorem pastWord_c : (s.pastWord).c = s.c := rfl
@[simp] theorem pastWord_d : (s.pastWord).d = s.d := rfl
@[simp] theorem pastWord_e : (s.pastWord).e = s.e := rfl
@[simp] theorem pastWord_h : (s.pastWord).h = s.h := rfl
@[simp] theorem pastWord_l : (s.pastWord).l = s.l := rfl
@[simp] theorem pastWord_sp : (s.pastWord).sp = s.sp := rfl
@[simp] theorem pastWord_pc : (s.pastWord).pc = s.pc + 2 := rfl
@[simp] theorem pastWord_ime : (s.pastWord).ime = s.ime := rfl
@[simp] theorem pastWord_imePending : (s.pastWord).imePending = s.imePending := rfl
@[simp] theorem pastWord_run : (s.pastWord).run = s.run := rfl
@[simp] theorem pastWord_mem : (s.pastWord).mem = s.mem := rfl
@[simp] theorem pastWord_status : (s.pastWord).status = s.status := rfl
@[simp] theorem pastWord_cycles : (s.pastWord).cycles = s.cycles := rfl
@[simp] theorem pastWord_bus : (s.pastWord).bus = s.bus ++ [.read s.pc, .read (s.pc + 1)] := rfl

/-! ### the report of an instruction -/

@[simp] theorem reported_a (n : Nat) : (s.reported n).a = s.a := rfl
@[simp] theorem reported_f (n : Nat) : (s.reported n).f = s.f := rfl
@[simp] theorem reported_b (n : Nat) : (s.reported n).b = s.b := rfl
@[simp] theorem reported_c (n : Nat) : (s.reported n).c = s.c := rfl
@[simp] theorem reported_d (n : Nat) : (s.reported n).d = s.d := rfl
@[simp] theorem reported_e (n : Nat) : (s.reported n).e = s.e := rfl
@[simp] theorem reported_h (n : Nat) : (s.reported n).h = s.h := rfl
@[simp] theorem reported_l (n : Nat) : (s.reported n).l = s.l := rfl
@[simp] theorem reported_sp (n : Nat) : (s.reported n).sp = s.sp := rfl
@[simp] theorem reported_pc (n : Nat) : (s.reported n).pc = s.pc := rfl
@[simp] theorem reported_ime (n : Nat) : (s.reported n).ime = s.ime := rfl
@[simp] theorem reported_imePending (n : Nat) : (s.reported n).imePending = s.imePending := rfl
@[simp] theorem reported_run (n : Nat) : (s.reported n).run = s.run := rfl
@[simp] theorem reported_mem (n : Nat) : (s.reported n).mem = s.mem := rfl
@[simp] theorem reported_status (n : Nat) : (s.reported n).status = .ran := rfl
@[simp] theorem reported_cycles (n : Nat) : (s.reported n).cycles = n := rfl
@[simp] theorem reported_bus (n : Nat) : (s.reported n).bus = s.bus := rfl

/-! ### the report of a step -/

@[simp] theorem report_a (st : StepStatus) (n : Nat) : (s.report st n).a = s.a := rfl
@[simp] theorem report_f (st : StepStatus) (n : Nat) : (s.report st n).f = s.f := rfl
@[simp] theorem report_b (st : StepStatus) (n : Nat) : (s.report st n).b = s.b := rfl
@[simp] theorem report_c (st : StepStatus) (n : Nat) : (s.report st n).c = s.c := rfl
@[simp] theorem report_d (st : StepStatus) (n : Nat) : (s.report st n).d = s.d := rfl
@[simp] theorem report_e (st : StepStatus) (n : Nat) : (s.report st n).e = s.e := rfl
@[simp] theorem report_h (st : StepStatus) (n : Nat) : (s.report st n).h = s.h := rfl
@[simp] theorem report_l (st : StepStatus) (n : Nat) : (s.report st n).l = s.l := rfl
@[simp] theorem report_sp (st : StepStatus) (n : Nat) : (s.report st n).sp = s.sp := rfl
@[simp] theorem report_pc (st : StepStatus) (n : Nat) : (s.report st n).pc = s.pc := rfl
@[simp] theorem report_ime (st : StepStatus) (n : Nat) : (s.report st n).ime = s.ime := rfl
@[simp] theorem report_imePending (st : StepStatus) (n : Nat) : (s.report st n).imePending = s.imePending := rfl
@[simp] theorem report_run (st : StepStatus) (n : Nat) : (s.report st n).run = s.run := rfl
@[simp] theorem report_mem (st : StepStatus) (n : Nat) : (s.report st n).mem = s.mem := rfl
@[simp] theorem report_status (st : StepStatus) (n : Nat) : (s.report st n).status = st := rfl
@[simp] theorem report_cycles (st : StepStatus) (n : Nat) : (s.report st n).cycles = n := rfl
@[simp] theorem report_bus (st : StepStatus) (n : Nat) : (s.report st n).bus = s.bus := rfl

/-! ### the report of an executed instruction -/

@[simp] theorem ran_a (n : Nat) : (s.ran n).a = s.a := rfl
@[simp] theorem ran_f (n : Nat) : (s.ran n).f = s.f := rfl
@[simp] theorem ran_b (n : Nat) : (s.ran n).b = s.b := rfl
@[simp] theorem ran_c (n : Nat) : (s.ran n).c = s.c := rfl
@[simp] theorem ran_d (n : Nat) : (s.ran n).d = s.d := rfl
@[simp] theorem ran_e (n : Nat) : (s.ran n).e = s.e := rfl
@[simp] theorem ran_h (n : Nat) : (s.ran n).h = s.h := rfl
@[simp] theorem ran_l (n : Nat) : (s.ran n).l = s.l := rfl
@[simp] theorem ran_sp (n : Nat) : (s.ran n).sp = s.sp := rfl
@[simp] theorem ran_pc (n : Nat) : (s.ran n).pc = s.pc := rfl
@[simp] theorem ran_ime (n : Nat) : (s.ran n).ime = s.ime := rfl
@[simp] theorem ran_imePending (n : Nat) : (s.ran n).imePending = s.imePending := rfl
@[simp] theorem ran_run (n : Nat) : (s.ran n).run = s.run := rfl
@[simp] theorem ran_mem (n : Nat) : (s.ran n).mem = s.mem := rfl
@[simp] theorem ran_status (n : Nat) : (s.ran n).status = .ran := rfl
@[simp] theorem ran_cycles (n : Nat) : (s.ran n).cycles = n := rfl
@[simp] theorem ran_bus (n : Nat) : (s.ran n).bus = s.bus := rfl

/-! ### the illegal-opcode exception -/

@[simp] theorem raiseIllegalOpcode_a (b : Byte) : (s.raiseIllegalOpcode b).a = s.a := rfl
@[simp] theorem raiseIllegalOpcode_f (b : Byte) : (s.raiseIllegalOpcode b).f = s.f := rfl
@[simp] theorem raiseIllegalOpcode_b (b : Byte) : (s.raiseIllegalOpcode b).b = s.b := rfl
@[simp] theorem raiseIllegalOpcode_c (b : Byte) : (s.raiseIllegalOpcode b).c = s.c := rfl
@[simp] theorem raiseIllegalOpcode_d (b : Byte) : (s.raiseIllegalOpcode b).d = s.d := rfl
@[simp] theorem raiseIllegalOpcode_e (b : Byte) : (s.raiseIllegalOpcode b).e = s.e := rfl
@[simp] theorem raiseIllegalOpcode_h (b : Byte) : (s.raiseIllegalOpcode b).h = s.h := rfl
@[simp] theorem raiseIllegalOpcode_l (b : Byte) : (s.raiseIllegalOpcode b).l = s.l := rfl
@[simp] theorem raiseIllegalOpcode_sp (b : Byte) : (s.raiseIllegalOpcode b).sp = s.sp := rfl
@[simp] theorem raiseIllegalOpcode_pc (b : Byte) : (s.raiseIllegalOpcode b).pc = s.pc := rfl
@[simp] theorem raiseIllegalOpcode_ime (b : Byte) : (s.raiseIllegalOpcode b).ime = s.ime := rfl
@[simp] theorem raiseIllegalOpcode_imePending (b : Byte) : (s.raiseIllegalOpcode b).imePending = s.imePending := rfl
@[simp] theorem raiseIllegalOpcode_run (b : Byte) : (s.raiseIllegalOpcode b).run = .faulted b := rfl
@[simp] theorem raiseIllegalOpcode_mem (b : Byte) : (s.raiseIllegalOpcode b).mem = s.mem := rfl
@[simp] theorem raiseIllegalOpcode_status (b : Byte) : (s.raiseIllegalOpcode b).status = .faulted b := rfl
@[simp] theorem raiseIllegalOpcode_cycles (b : Byte) : (s.raiseIllegalOpcode b).cycles = 0 := rfl
@[simp] theorem raiseIllegalOpcode_bus (b : Byte) : (s.raiseIllegalOpcode b).bus = s.bus := rfl

/-! ### a write of the flags -/

@[simp] theorem setFlags_a (z n hf cf : Bool) : (s.setFlags z n hf cf).a = s.a := rfl
@[simp] theorem setFlags_f (z n hf cf : Bool) : (s.setFlags z n hf cf).f = flagByte z n hf cf := rfl
@[simp] theorem setFlags_b (z n hf cf : Bool) : (s.setFlags z n hf cf).b = s.b := rfl
@[simp] theorem setFlags_c (z n hf cf : Bool) : (s.setFlags z n hf cf).c = s.c := rfl
@[simp] theorem setFlags_d (z n hf cf : Bool) : (s.setFlags z n hf cf).d = s.d := rfl
@[simp] theorem setFlags_e (z n hf cf : Bool) : (s.setFlags z n hf cf).e = s.e := rfl
@[simp] theorem setFlags_h (z n hf cf : Bool) : (s.setFlags z n hf cf).h = s.h := rfl
@[simp] theorem setFlags_l (z n hf cf : Bool) : (s.setFlags z n hf cf).l = s.l := rfl
@[simp] theorem setFlags_sp (z n hf cf : Bool) : (s.setFlags z n hf cf).sp = s.sp := rfl
@[simp] theorem setFlags_pc (z n hf cf : Bool) : (s.setFlags z n hf cf).pc = s.pc := rfl
@[simp] theorem setFlags_ime (z n hf cf : Bool) : (s.setFlags z n hf cf).ime = s.ime := rfl
@[simp] theorem setFlags_imePending (z n hf cf : Bool) : (s.setFlags z n hf cf).imePending = s.imePending := rfl
@[simp] theorem setFlags_run (z n hf cf : Bool) : (s.setFlags z n hf cf).run = s.run := rfl
@[simp] theorem setFlags_mem (z n hf cf : Bool) : (s.setFlags z n hf cf).mem = s.mem := rfl
@[simp] theorem setFlags_status (z n hf cf : Bool) : (s.setFlags z n hf cf).status = s.status := rfl
@[simp] theorem setFlags_cycles (z n hf cf : Bool) : (s.setFlags z n hf cf).cycles = s.cycles := rfl
@[simp] theorem setFlags_bus (z n hf cf : Bool) : (s.setFlags z n hf cf).bus = s.bus := rfl

/-! ### a write of F -/

@[simp] theorem writeF_a (v : Byte) : (s.writeF v).a = s.a := rfl
@[simp] theorem writeF_f (v : Byte) : (s.writeF v).f = v &&& 0xF0 := rfl
@[simp] theorem writeF_b (v : Byte) : (s.writeF v).b = s.b := rfl
@[simp] theorem writeF_c (v : Byte) : (s.writeF v).c = s.c := rfl
@[simp] theorem writeF_d (v : Byte) : (s.writeF v).d = s.d := rfl
@[simp] theorem writeF_e (v : Byte) : (s.writeF v).e = s.e := rfl
@[simp] theorem writeF_h (v : Byte) : (s.writeF v).h = s.h := rfl
@[simp] theorem writeF_l (v : Byte) : (s.writeF v).l = s.l := rfl
@[simp] theorem writeF_sp (v : Byte) : (s.writeF v).sp = s.sp := rfl
@[simp] theorem writeF_pc (v : Byte) : (s.writeF v).pc = s.pc := rfl
@[simp] theorem writeF_ime (v : Byte) : (s.writeF v).ime = s.ime := rfl
@[simp] theorem writeF_imePending (v : Byte) : (s.writeF v).imePending = s.imePending := rfl
@[simp] theorem writeF_run (v : Byte) : (s.writeF v).run = s.run := rfl
@[simp] theorem writeF_mem (v : Byte) : (s.writeF v).mem = s.mem := rfl
@[simp] theorem writeF_status (v : Byte) : (s.writeF v).status = s.status := rfl
@[simp] theorem writeF_cycles (v : Byte) : (s.writeF v).cycles = s.cycles := rfl
@[simp] theorem writeF_bus (v : Byte) : (s.writeF v).bus = s.bus := rfl

/-! ### a write of BC -/

@[simp] theorem setBC_a (w : Word) : (s.setBC w).a = s.a := rfl
@[simp] theorem setBC_f (w : Word) : (s.setBC w).f = s.f := rfl
@[simp] theorem setBC_b (w : Word) : (s.setBC w).b = hi w := rfl
@[simp] theorem setBC_c (w : Word) : (s.setBC w).c = lo w := rfl
@[simp] theorem setBC_d (w : Word) : (s.setBC w).d = s.d := rfl
@[simp] theorem setBC_e (w : Word) : (s.setBC w).e = s.e := rfl
@[simp] theorem setBC_h (w : Word) : (s.setBC w).h = s.h := rfl
@[simp] theorem setBC_l (w : Word) : (s.setBC w).l = s.l := rfl
@[simp] theorem setBC_sp (w : Word) : (s.setBC w).sp = s.sp := rfl
@[simp] theorem setBC_pc (w : Word) : (s.setBC w).pc = s.pc := rfl
@[simp] theorem setBC_ime (w : Word) : (s.setBC w).ime = s.ime := rfl
@[simp] theorem setBC_imePending (w : Word) : (s.setBC w).imePending = s.imePending := rfl
@[simp] theorem setBC_run (w : Word) : (s.setBC w).run = s.run := rfl
@[simp] theorem setBC_mem (w : Word) : (s.setBC w).mem = s.mem := rfl
@[simp] theorem setBC_status (w : Word) : (s.setBC w).status = s.status := rfl
@[simp] theorem setBC_cycles (w : Word) : (s.setBC w).cycles = s.cycles := rfl
@[simp] theorem setBC_bus (w : Word) : (s.setBC w).bus = s.bus := rfl

/-! ### a write of DE -/

@[simp] theorem setDE_a (w : Word) : (s.setDE w).a = s.a := rfl
@[simp] theorem setDE_f (w : Word) : (s.setDE w).f = s.f := rfl
@[simp] theorem setDE_b (w : Word) : (s.setDE w).b = s.b := rfl
@[simp] theorem setDE_c (w : Word) : (s.setDE w).c = s.c := rfl
@[simp] theorem setDE_d (w : Word) : (s.setDE w).d = hi w := rfl
@[simp] theorem setDE_e (w : Word) : (s.setDE w).e = lo w := rfl
@[simp] theorem setDE_h (w : Word) : (s.setDE w).h = s.h := rfl
@[simp] theorem setDE_l (w : Word) : (s.setDE w).l = s.l := rfl
@[simp] theorem setDE_sp (w : Word) : (s.setDE w).sp = s.sp := rfl
@[simp] theorem setDE_pc (w : Word) : (s.setDE w).pc = s.pc := rfl
@[simp] theorem setDE_ime (w : Word) : (s.setDE w).ime = s.ime := rfl
@[simp] theorem setDE_imePending (w : Word) : (s.setDE w).imePending = s.imePending := rfl
@[simp] theorem setDE_run (w : Word) : (s.setDE w).run = s.run := rfl
@[simp] theorem setDE_mem (w : Word) : (s.setDE w).mem = s.mem := rfl
@[simp] theorem setDE_status (w : Word) : (s.setDE w).status = s.status := rfl
@[simp] theorem setDE_cycles (w : Word) : (s.setDE w).cycles = s.cycles := rfl
@[simp] theorem setDE_bus (w : Word) : (s.setDE w).bus = s.bus := rfl

/-! ### a write of HL -/

@[simp] theorem setHL_a (w : Word) : (s.setHL w).a = s.a := rfl
@[simp] theorem setHL_f (w : Word) : (s.setHL w).f = s.f := rfl
@[simp] theorem setHL_b (w : Word) : (s.setHL w).b = s.b := rfl
@[simp] theorem setHL_c (w : Word) : (s.setHL w).c = s.c := rfl
@[simp] theorem setHL_d (w : Word) : (s.setHL w).d = s.d := rfl
@[simp] theorem setHL_e (w : Word) : (s.setHL w).e = s.e := rfl
@[simp] theorem setHL_h (w : Word) : (s.setHL w).h = hi w := rfl
@[simp] theorem setHL_l (w : Word) : (s.setHL w).l = lo w := rfl
@[simp] theorem setHL_sp (w : Word) : (s.setHL w).sp = s.sp := rfl
@[simp] theorem setHL_pc (w : Word) : (s.setHL w).pc = s.pc := rfl
@[simp] theorem setHL_ime (w : Word) : (s.setHL w).ime = s.ime := rfl
@[simp] theorem setHL_imePending (w : Word) : (s.setHL w).imePending = s.imePending := rfl
@[simp] theorem setHL_run (w : Word) : (s.setHL w).run = s.run := rfl
@[simp] theorem setHL_mem (w : Word) : (s.setHL w).mem = s.mem := rfl
@[simp] theorem setHL_status (w : Word) : (s.setHL w).status = s.status := rfl
@[simp] theorem setHL_cycles (w : Word) : (s.setHL w).cycles = s.cycles := rfl
@[simp] theorem setHL_bus (w : Word) : (s.setHL w).bus = s.bus := rfl

/-! ### a write of AF -/

@[simp] theorem setAF_a (w : Word) : (s.setAF w).a = hi w := rfl
@[simp] theorem setAF_f (w : Word) : (s.setAF w).f = lo w &&& 0xF0 := rfl
@[simp] theorem setAF_b (w : Word) : (s.setAF w).b = s.b := rfl
@[simp] theorem setAF_c (w : Word) : (s.setAF w).c = s.c := rfl
@[simp] theorem setAF_d (w : Word) : (s.setAF w).d = s.d := rfl
@[simp] theorem setAF_e (w : Word) : (s.setAF w).e = s.e := rfl
@[simp] theorem setAF_h (w : Word) : (s.setAF w).h = s.h := rfl
@[simp] theorem setAF_l (w : Word) : (s.setAF w).l = s.l := rfl
@[simp] theorem setAF_sp (w : Word) : (s.setAF w).sp = s.sp := rfl
@[simp] theorem setAF_pc (w : Word) : (s.setAF w).pc = s.pc := rfl
@[simp] theorem setAF_ime (w : Word) : (s.setAF w).ime = s.ime := rfl
@[simp] theorem setAF_imePending (w : Word) : (s.setAF w).imePending = s.imePending := rfl
@[simp] theorem setAF_run (w : Word) : (s.setAF w).run = s.run := rfl
@[simp] theorem setAF_mem (w : Word) : (s.setAF w).mem = s.mem := rfl
@[simp] theorem setAF_status (w : Word) : (s.setAF w).status = s.status := rfl
@[simp] theorem setAF_cycles (w : Word) : (s.setAF w).cycles = s.cycles := rfl
@[simp] theorem setAF_bus (w : Word) : (s.setAF w).bus = s.bus := rfl

/-! ### a write of a register -/

@[simp] theorem setReg_f (r : Reg) (v : Byte) : (s.setReg r v).f = s.f := by cases r <;> rfl
@[simp] theorem setReg_sp (r : Reg) (v : Byte) : (s.setReg r v).sp = s.sp := by cases r <;> rfl
@[simp] theorem setReg_pc (r : Reg) (v : Byte) : (s.setReg r v).pc = s.pc := by cases r <;> rfl
@[simp] theorem setReg_ime (r : Reg) (v : Byte) : (s.setReg r v).ime = s.ime := by cases r <;> rfl
@[simp] theorem setReg_imePending (r : Reg) (v : Byte) : (s.setReg r v).imePending = s.imePending := by cases r <;> rfl
@[simp] theorem setReg_run (r : Reg) (v : Byte) : (s.setReg r v).run = s.run := by cases r <;> rfl
@[simp] theorem setReg_mem (r : Reg) (v : Byte) : (s.setReg r v).mem = s.mem := by cases r <;> rfl
@[simp] theorem setReg_status (r : Reg) (v : Byte) : (s.setReg r v).status = s.status := by cases r <;> rfl
@[simp] theorem setReg_cycles (r : Reg) (v : Byte) : (s.setReg r v).cycles = s.cycles := by cases r <;> rfl
@[simp] theorem setReg_bus (r : Reg) (v : Byte) : (s.setReg r v).bus = s.bus := by cases r <;> rfl

/-! ### a write of a pair or SP -/

@[simp] theorem setR16_a (r : R16) (w : Word) : (s.setR16 r w).a = s.a := by cases r <;> rfl
@[simp] theorem setR16_f (r : R16) (w : Word) : (s.setR16 r w).f = s.f := by cases r <;> rfl
@[simp] theorem setR16_pc (r : R16) (w : Word) : (s.setR16 r w).pc = s.pc := by cases r <;> rfl
@[simp] theorem setR16_ime (r : R16) (w : Word) : (s.setR16 r w).ime = s.ime := by cases r <;> rfl
@[simp] theorem setR16_imePending (r : R16) (w : Word) : (s.setR16 r w).imePending = s.imePending := by cases r <;> rfl
@[simp] theorem setR16_run (r : R16) (w : Word) : (s.setR16 r w).run = s.run := by cases r <;> rfl
@[simp] theorem setR16_mem (r : R16) (w : Word) : (s.setR16 r w).mem = s.mem := by cases r <;> rfl
@[simp] theorem setR16_status (r : R16) (w : Word) : (s.setR16 r w).status = s.status := by cases r <;> rfl
@[simp] theorem setR16_cycles (r : R16) (w : Word) : (s.setR16 r w).cycles = s.cycles := by cases r <;> rfl
@[simp] theorem setR16_bus (r : R16) (w : Word) : (s.setR16 r w).bus = s.bus := by cases r <;> rfl

/-! ### a write of a stack pair -/

@[simp] theorem setR16stk_sp (r : R16Stk) (w : Word) : (s.setR16stk r w).sp = s.sp := by cases r <;> rfl
@[simp] theorem setR16stk_pc (r : R16Stk) (w : Word) : (s.setR16stk r w).pc = s.pc := by cases r <;> rfl
@[simp] theorem setR16stk_ime (r : R16Stk) (w : Word) : (s.setR16stk r w).ime = s.ime := by cases r <;> rfl
@[simp] theorem setR16stk_imePending (r : R16Stk) (w : Word) : (s.setR16stk r w).imePending = s.imePending := by cases r <;> rfl
@[simp] theorem setR16stk_run (r : R16Stk) (w : Word) : (s.setR16stk r w).run = s.run := by cases r <;> rfl
@[simp] theorem setR16stk_mem (r : R16Stk) (w : Word) : (s.setR16stk r w).mem = s.mem := by cases r <;> rfl
@[simp] theorem setR16stk_status (r : R16Stk) (w : Word) : (s.setR16stk r w).status = s.status := by cases r <;> rfl
@[simp] theorem setR16stk_cycles (r : R16Stk) (w : Word) : (s.setR16stk r w).cycles = s.cycles := by cases r <;> rfl
@[simp] theorem setR16stk_bus (r : R16Stk) (w : Word) : (s.setR16stk r w).bus = s.bus := by cases r <;> rfl

/-! ### a memory-indirect address -/

@[simp] theorem r16mem_a (m : R16Mem) : ((s.r16mem m).2).a = s.a := by cases m <;> rfl
@[simp] theorem r16mem_f (m : R16Mem) : ((s.r16mem m).2).f = s.f := by cases m <;> rfl
@[simp] theorem r16mem_b (m : R16Mem) : ((s.r16mem m).2).b = s.b := by cases m <;> rfl
@[simp] theorem r16mem_c (m : R16Mem) : ((s.r16mem m).2).c = s.c := by cases m <;> rfl
@[simp] theorem r16mem_d (m : R16Mem) : ((s.r16mem m).2).d = s.d := by cases m <;> rfl
@[simp] theorem r16mem_e (m : R16Mem) : ((s.r16mem m).2).e = s.e := by cases m <;> rfl
@[simp] theorem r16mem_sp (m : R16Mem) : ((s.r16mem m).2).sp = s.sp := by cases m <;> rfl
@[simp] theorem r16mem_pc (m : R16Mem) : ((s.r16mem m).2).pc = s.pc := by cases m <;> rfl
@[simp] theorem r16mem_ime (m : R16Mem) : ((s.r16mem m).2).ime = s.ime := by cases m <;> rfl
@[simp] theorem r16mem_imePending (m : R16Mem) : ((s.r16mem m).2).imePending = s.imePending := by cases m <;> rfl
@[simp] theorem r16mem_run (m : R16Mem) : ((s.r16mem m).2).run = s.run := by cases m <;> rfl
@[simp] theorem r16mem_mem (m : R16Mem) : ((s.r16mem m).2).mem = s.mem := by cases m <;> rfl
@[simp] theorem r16mem_status (m : R16Mem) : ((s.r16mem m).2).status = s.status := by cases m <;> rfl
@[simp] theorem r16mem_cycles (m : R16Mem) : ((s.r16mem m).2).cycles = s.cycles := by cases m <;> rfl
@[simp] theorem r16mem_bus (m : R16Mem) : ((s.r16mem m).2).bus = s.bus := by cases m <;> rfl

/-- The end of an instruction changes nothing, or sets IME and clears ime_pending. -/
theorem consumeImePending_eq (p : Bool) :
    s.consumeImePending p = s ∨ s.consumeImePending p = { s with ime := true, imePending := false } := by
  unfold State.consumeImePending
  split
  · exact .inl rfl
  · split
    · exact .inr rfl
    · exact .inl rfl

/-! ### the end of an instruction -/

@[simp] theorem consumeImePending_a (p : Bool) : (s.consumeImePending p).a = s.a := by rcases consumeImePending_eq s p with h | h <;> rw [h]
@[simp] theorem consumeImePending_f (p : Bool) : (s.consumeImePending p).f = s.f := by rcases consumeImePending_eq s p with h | h <;> rw [h]
@[simp] theorem consumeImePending_b (p : Bool) : (s.consumeImePending p).b = s.b := by rcases consumeImePending_eq s p with h | h <;> rw [h]
@[simp] theorem consumeImePending_c (p : Bool) : (s.consumeImePending p).c = s.c := by rcases consumeImePending_eq s p with h | h <;> rw [h]
@[simp] theorem consumeImePending_d (p : Bool) : (s.consumeImePending p).d = s.d := by rcases consumeImePending_eq s p with h | h <;> rw [h]
@[simp] theorem consumeImePending_e (p : Bool) : (s.consumeImePending p).e = s.e := by rcases consumeImePending_eq s p with h | h <;> rw [h]
@[simp] theorem consumeImePending_h (p : Bool) : (s.consumeImePending p).h = s.h := by rcases consumeImePending_eq s p with h | h <;> rw [h]
@[simp] theorem consumeImePending_l (p : Bool) : (s.consumeImePending p).l = s.l := by rcases consumeImePending_eq s p with h | h <;> rw [h]
@[simp] theorem consumeImePending_sp (p : Bool) : (s.consumeImePending p).sp = s.sp := by rcases consumeImePending_eq s p with h | h <;> rw [h]
@[simp] theorem consumeImePending_pc (p : Bool) : (s.consumeImePending p).pc = s.pc := by rcases consumeImePending_eq s p with h | h <;> rw [h]
@[simp] theorem consumeImePending_run (p : Bool) : (s.consumeImePending p).run = s.run := by rcases consumeImePending_eq s p with h | h <;> rw [h]
@[simp] theorem consumeImePending_mem (p : Bool) : (s.consumeImePending p).mem = s.mem := by rcases consumeImePending_eq s p with h | h <;> rw [h]
@[simp] theorem consumeImePending_status (p : Bool) : (s.consumeImePending p).status = s.status := by rcases consumeImePending_eq s p with h | h <;> rw [h]
@[simp] theorem consumeImePending_cycles (p : Bool) : (s.consumeImePending p).cycles = s.cycles := by rcases consumeImePending_eq s p with h | h <;> rw [h]
@[simp] theorem consumeImePending_bus (p : Bool) : (s.consumeImePending p).bus = s.bus := by rcases consumeImePending_eq s p with h | h <;> rw [h]

/-! ### an interrupt request -/

@[simp] theorem requestInterrupts_a (m : BitVec 5) : (s.requestInterrupts m).a = s.a := rfl
@[simp] theorem requestInterrupts_f (m : BitVec 5) : (s.requestInterrupts m).f = s.f := rfl
@[simp] theorem requestInterrupts_b (m : BitVec 5) : (s.requestInterrupts m).b = s.b := rfl
@[simp] theorem requestInterrupts_c (m : BitVec 5) : (s.requestInterrupts m).c = s.c := rfl
@[simp] theorem requestInterrupts_d (m : BitVec 5) : (s.requestInterrupts m).d = s.d := rfl
@[simp] theorem requestInterrupts_e (m : BitVec 5) : (s.requestInterrupts m).e = s.e := rfl
@[simp] theorem requestInterrupts_h (m : BitVec 5) : (s.requestInterrupts m).h = s.h := rfl
@[simp] theorem requestInterrupts_l (m : BitVec 5) : (s.requestInterrupts m).l = s.l := rfl
@[simp] theorem requestInterrupts_sp (m : BitVec 5) : (s.requestInterrupts m).sp = s.sp := rfl
@[simp] theorem requestInterrupts_pc (m : BitVec 5) : (s.requestInterrupts m).pc = s.pc := rfl
@[simp] theorem requestInterrupts_ime (m : BitVec 5) : (s.requestInterrupts m).ime = s.ime := rfl
@[simp] theorem requestInterrupts_imePending (m : BitVec 5) : (s.requestInterrupts m).imePending = s.imePending := rfl
@[simp] theorem requestInterrupts_run (m : BitVec 5) : (s.requestInterrupts m).run = s.run := rfl
@[simp] theorem requestInterrupts_mem (m : BitVec 5) : (s.requestInterrupts m).mem = Memory.write s.mem addrIF.toNat (s.peek addrIF ||| BitVec.ofNat 8 m.toNat) := rfl
@[simp] theorem requestInterrupts_status (m : BitVec 5) : (s.requestInterrupts m).status = s.status := rfl
@[simp] theorem requestInterrupts_cycles (m : BitVec 5) : (s.requestInterrupts m).cycles = s.cycles := rfl
@[simp] theorem requestInterrupts_bus (m : BitVec 5) : (s.requestInterrupts m).bus = s.bus := rfl

/-! ### reset -/

@[simp] theorem resetEvent_a (r : ResetRegs) : (s.resetEvent r).a = r.a := rfl
@[simp] theorem resetEvent_f (r : ResetRegs) : (s.resetEvent r).f = BitVec.ofNat 8 (16 * r.flags.toNat) := rfl
@[simp] theorem resetEvent_b (r : ResetRegs) : (s.resetEvent r).b = r.b := rfl
@[simp] theorem resetEvent_c (r : ResetRegs) : (s.resetEvent r).c = r.c := rfl
@[simp] theorem resetEvent_d (r : ResetRegs) : (s.resetEvent r).d = r.d := rfl
@[simp] theorem resetEvent_e (r : ResetRegs) : (s.resetEvent r).e = r.e := rfl
@[simp] theorem resetEvent_h (r : ResetRegs) : (s.resetEvent r).h = r.h := rfl
@[simp] theorem resetEvent_l (r : ResetRegs) : (s.resetEvent r).l = r.l := rfl
@[simp] theorem resetEvent_sp (r : ResetRegs) : (s.resetEvent r).sp = r.sp := rfl
@[simp] theorem resetEvent_pc (r : ResetRegs) : (s.resetEvent r).pc = 0x0000 := rfl
@[simp] theorem resetEvent_ime (r : ResetRegs) : (s.resetEvent r).ime = false := rfl
@[simp] theorem resetEvent_imePending (r : ResetRegs) : (s.resetEvent r).imePending = false := rfl
@[simp] theorem resetEvent_run (r : ResetRegs) : (s.resetEvent r).run = .fetching := rfl
@[simp] theorem resetEvent_mem (r : ResetRegs) : (s.resetEvent r).mem = s.mem := rfl
@[simp] theorem resetEvent_status (r : ResetRegs) : (s.resetEvent r).status = .ran := rfl
@[simp] theorem resetEvent_cycles (r : ResetRegs) : (s.resetEvent r).cycles = 0 := rfl
@[simp] theorem resetEvent_bus (r : ResetRegs) : (s.resetEvent r).bus = [] := rfl

/-! ### a core awake -/

@[simp] theorem awake_a : (s.awake).a = s.a := rfl
@[simp] theorem awake_f : (s.awake).f = s.f := rfl
@[simp] theorem awake_b : (s.awake).b = s.b := rfl
@[simp] theorem awake_c : (s.awake).c = s.c := rfl
@[simp] theorem awake_d : (s.awake).d = s.d := rfl
@[simp] theorem awake_e : (s.awake).e = s.e := rfl
@[simp] theorem awake_h : (s.awake).h = s.h := rfl
@[simp] theorem awake_l : (s.awake).l = s.l := rfl
@[simp] theorem awake_sp : (s.awake).sp = s.sp := rfl
@[simp] theorem awake_pc : (s.awake).pc = s.pc := rfl
@[simp] theorem awake_ime : (s.awake).ime = s.ime := rfl
@[simp] theorem awake_imePending : (s.awake).imePending = s.imePending := rfl
@[simp] theorem awake_run : (s.awake).run = .fetching := rfl
@[simp] theorem awake_mem : (s.awake).mem = s.mem := rfl
@[simp] theorem awake_status : (s.awake).status = s.status := rfl
@[simp] theorem awake_cycles : (s.awake).cycles = s.cycles := rfl
@[simp] theorem awake_bus : (s.awake).bus = s.bus := rfl

/-! ### a state ready to fetch -/

@[simp] theorem readyToFetch_a : (s.readyToFetch).a = s.a := rfl
@[simp] theorem readyToFetch_f : (s.readyToFetch).f = s.f := rfl
@[simp] theorem readyToFetch_b : (s.readyToFetch).b = s.b := rfl
@[simp] theorem readyToFetch_c : (s.readyToFetch).c = s.c := rfl
@[simp] theorem readyToFetch_d : (s.readyToFetch).d = s.d := rfl
@[simp] theorem readyToFetch_e : (s.readyToFetch).e = s.e := rfl
@[simp] theorem readyToFetch_h : (s.readyToFetch).h = s.h := rfl
@[simp] theorem readyToFetch_l : (s.readyToFetch).l = s.l := rfl
@[simp] theorem readyToFetch_sp : (s.readyToFetch).sp = s.sp := rfl
@[simp] theorem readyToFetch_pc : (s.readyToFetch).pc = s.pc := rfl
@[simp] theorem readyToFetch_ime : (s.readyToFetch).ime = (s.ime && decide (s.pending = 0)) := rfl
@[simp] theorem readyToFetch_imePending : (s.readyToFetch).imePending = s.imePending := rfl
@[simp] theorem readyToFetch_run : (s.readyToFetch).run = .fetching := rfl
@[simp] theorem readyToFetch_mem : (s.readyToFetch).mem = s.mem := rfl
@[simp] theorem readyToFetch_status : (s.readyToFetch).status = s.status := rfl
@[simp] theorem readyToFetch_cycles : (s.readyToFetch).cycles = s.cycles := rfl
@[simp] theorem readyToFetch_bus : (s.readyToFetch).bus = s.bus := rfl

/-! ### the general registers of another state -/

@[simp] theorem withRegsOf_a (t : State) : (s.withRegsOf t).a = t.a := rfl
@[simp] theorem withRegsOf_f (t : State) : (s.withRegsOf t).f = s.f := rfl
@[simp] theorem withRegsOf_b (t : State) : (s.withRegsOf t).b = t.b := rfl
@[simp] theorem withRegsOf_c (t : State) : (s.withRegsOf t).c = t.c := rfl
@[simp] theorem withRegsOf_d (t : State) : (s.withRegsOf t).d = t.d := rfl
@[simp] theorem withRegsOf_e (t : State) : (s.withRegsOf t).e = t.e := rfl
@[simp] theorem withRegsOf_h (t : State) : (s.withRegsOf t).h = t.h := rfl
@[simp] theorem withRegsOf_l (t : State) : (s.withRegsOf t).l = t.l := rfl
@[simp] theorem withRegsOf_sp (t : State) : (s.withRegsOf t).sp = s.sp := rfl
@[simp] theorem withRegsOf_pc (t : State) : (s.withRegsOf t).pc = s.pc := rfl
@[simp] theorem withRegsOf_ime (t : State) : (s.withRegsOf t).ime = s.ime := rfl
@[simp] theorem withRegsOf_imePending (t : State) : (s.withRegsOf t).imePending = s.imePending := rfl
@[simp] theorem withRegsOf_run (t : State) : (s.withRegsOf t).run = s.run := rfl
@[simp] theorem withRegsOf_mem (t : State) : (s.withRegsOf t).mem = s.mem := rfl
@[simp] theorem withRegsOf_status (t : State) : (s.withRegsOf t).status = s.status := rfl
@[simp] theorem withRegsOf_cycles (t : State) : (s.withRegsOf t).cycles = s.cycles := rfl
@[simp] theorem withRegsOf_bus (t : State) : (s.withRegsOf t).bus = s.bus := rfl

/-! ### reading a written register -/

@[simp] theorem reg_setReg (r q : Reg) (v : Byte) : (s.setReg r v).reg q = if q = r then v else s.reg q := by
  cases r <;> cases q <;> rfl

@[simp] theorem reg_withRegsOf (t : State) (r : Reg) : (s.withRegsOf t).reg r = t.reg r := by
  cases r <;> rfl

@[simp] theorem reg_setFlags (r : Reg) (z n hf cf : Bool) : (s.setFlags z n hf cf).reg r = s.reg r := by
  cases r <;> rfl

@[simp] theorem reg_ran (r : Reg) (n : Nat) : (s.ran n).reg r = s.reg r := by
  cases r <;> rfl

@[simp] theorem r16_setR16 (r : R16) (w : Word) : (s.setR16 r w).r16 r = w := by
  cases r <;> first | rfl | exact cat_hi_lo w

@[simp] theorem r16stk_setR16stk_bc (w : Word) : (s.setR16stk .bc w).r16stk .bc = w := cat_hi_lo w

@[simp] theorem r16stk_setR16stk_de (w : Word) : (s.setR16stk .de w).r16stk .de = w := cat_hi_lo w

@[simp] theorem r16stk_setR16stk_hl (w : Word) : (s.setR16stk .hl w).r16stk .hl = w := cat_hi_lo w

@[simp] theorem setR16_r16_of_ne (r q : R16) (w : Word) (h : q ≠ r) : (s.setR16 r w).r16 q = s.r16 q := by
  cases r <;> cases q <;> first | rfl | exact absurd rfl h

end Sys2Proof.Machine
end

