-- ==== Sys2Proof/Laws/Flags.lean ====
section
/-! SUPPORT. The flag register read back, and each computation of a result and its flags over the integers. -/

namespace Sys2Proof.Machine

theorem flagByte_bits (z n h c : Bool) :
    ((flagByte z n h c).getLsbD 7, (flagByte z n h c).getLsbD 6, (flagByte z n h c).getLsbD 5,
      (flagByte z n h c).getLsbD 4) = (z, n, h, c) := by
  cases z <;> cases n <;> cases h <;> cases c <;> decide

@[simp] theorem flags_setFlags (s : State) (z n h c : Bool) : (s.setFlags z n h c).flags = (z, n, h, c) :=
  flagByte_bits z n h c

@[simp] theorem flags_ran (s : State) (n : Nat) : (s.ran n).flags = s.flags := rfl

/-- Bits 3 to 0 of a byte of four flags are 0. -/
theorem flagByte_low (z n h c : Bool) : flagByte z n h c &&& 0x0F = 0 := by
  cases z <;> cases n <;> cases h <;> cases c <;> rfl

@[simp] theorem setFlags_low (s : State) (z n h c : Bool) : (s.setFlags z n h c).f &&& 0x0F = 0 :=
  flagByte_low z n h c

@[simp] theorem ran_f_low (s : State) (n : Nat) : (s.ran n).f &&& 0x0F = s.f &&& 0x0F := rfl

@[simp] theorem flagC_setFlags (s : State) (z n h c : Bool) : (s.setFlags z n h c).flagC = c := by
  have := flags_setFlags s z n h c
  simp only [State.flags, Prod.mk.injEq] at this
  exact this.2.2.2

theorem byte_test_zero (v : Byte) : (v == 0) = decide (v = 0) := rfl

theorem add8_val (a b : Byte) (cin : Bool) : (add8 a b cin).val.toNat = (a.toNat + b.toNat + cin.toNat) % 256 := by
  simp [add8]

theorem sub8_val (a b : Byte) (cin : Bool) :
    ((sub8 a b cin).val.toNat : Int) = ((a.toNat : Int) - b.toNat - cin.toNat) % 256 := by
  rw [sub8, BitVec.toNat_ofInt]
  have : (0 : Int) ≤ ((a.toNat : Int) - b.toNat - cin.toNat) % ((2 ^ 8 : Nat) : Int) := Int.emod_nonneg _ (by decide)
  rw [Int.toNat_of_nonneg this]
  rfl

/-- The difference is zero exactly when the operands are equal (no borrow-in). -/
theorem sub8_val_eq_zero (a b : Byte) : (sub8 a b false).val = 0 ↔ a = b := by
  have h := sub8_val a b false
  have ha := a.isLt
  have hb := b.isLt
  constructor
  · intro h0
    rw [h0] at h
    apply BitVec.eq_of_toNat_eq
    simp at h
    omega
  · intro hab
    subst hab
    apply BitVec.eq_of_toNat_eq
    simpa using h

theorem inc8_val (v : Byte) : (inc8 v).1.toNat = (v.toNat + 1) % 256 := by
  simp [inc8, BitVec.toNat_add]

theorem dec8_val (v : Byte) : (dec8 v).1.toNat = (v.toNat + 255) % 256 := by
  simp [dec8, BitVec.toNat_sub, Nat.add_comm]

theorem add16_val (a b : Word) : (add16 a b).val.toNat = (a.toNat + b.toNat) % 65536 := by
  simp [add16]

/-- DAA as one signed correction (42_alu8.md R181). -/
theorem daa8_val (a : Byte) (n h c : Bool) :
    let high := c || (!n && decide (a.toNat > 0x99))
    let low := h || (!n && decide (a.toNat % 16 > 9))
    let total : Int := 0x60 * high.toNat + 0x06 * low.toNat
    ((daa8 a n h c).1.toNat : Int) = (if n then (a.toNat : Int) - total else a.toNat + total) % 256 ∧
    (daa8 a n h c).2 = high := by
  have ha := a.isLt
  cases n
  · simp only [daa8, Bool.false_eq_true, if_false, Bool.not_false, Bool.true_and]
    refine ⟨?_, trivial⟩
    generalize (c || decide (a.toNat > 0x99)) = high
    generalize (h || decide (a.toNat % 16 > 0x09)) = low
    cases high <;> cases low <;> simp [BitVec.toNat_add] <;> omega
  · simp only [daa8, if_true, Bool.not_true, Bool.false_and, Bool.or_false]
    refine ⟨?_, trivial⟩
    cases c <;> cases h <;> simp [BitVec.toNat_sub] <;> omega

theorem rotate_val (op : RotOp) (v : Byte) (cin : Bool) :
    (rotate op v cin).1.toNat = rotValue op v.toNat cin.toNat := by
  revert v cin
  cases op <;> decide +kernel

theorem rotate_carry (op : RotOp) (v : Byte) (cin : Bool) : (rotate op v cin).2 = rotCarry op v.toNat := by
  revert v cin
  cases op <;> decide +kernel

theorem bitMask_bit (i : Idx3) (k : Nat) (hk : k < 8) : (bitMask i).getLsbD k = decide (k = i.num) := by
  cases i <;> revert k <;> decide

theorem res_bit (v : Byte) (i : Idx3) (k : Nat) (hk : k < 8) :
    (v &&& ~~~(bitMask i)).getLsbD k = if k = i.num then false else v.getLsbD k := by
  rw [BitVec.getLsbD_and, BitVec.getLsbD_not, bitMask_bit i k hk]
  by_cases h : k = i.num <;> simp [h, hk]

theorem set_bit (v : Byte) (i : Idx3) (k : Nat) (hk : k < 8) :
    (v ||| bitMask i).getLsbD k = if k = i.num then true else v.getLsbD k := by
  rw [BitVec.getLsbD_or, bitMask_bit i k hk]
  by_cases h : k = i.num <;> simp [h]

end Sys2Proof.Machine
end

