-- ==== Sys2Proof/Laws/Ops.lean ====
section
/-! SUPPORT. One lemma for each shared operation that says everything it does on the default bus: the bus primitives,
fetch, stack, the pending set, acknowledge and dispatch; and that every effect keeps memory in canonical form and puts
every write on the bus. -/

namespace Sys2Proof.Machine

variable (s : State)

/-! ### addresses -/

theorem sub_two_add_one (w : Word) : w - 2 + 1 = w - 1 := by bv_omega

theorem sub_one_ne_sub_two (w : Word) : w - 1 ≠ w - 2 := by bv_omega

theorem add_one_ne_self (w : Word) : w + 1 ≠ w := by bv_omega

theorem sub_two_add_two (w : Word) : w - 2 + 2 = w := by bv_omega

/-! ### bytes -/

theorem peek_eq (a : Word) : s.peek a = Memory.read s.mem a.toNat := rfl

theorem peek_of_mem_eq {s t : State} (h : t.mem = s.mem) (a : Word) : t.peek a = s.peek a := by
  rw [State.peek, h, State.peek]

theorem read_write_word (m : Memory) (a x : Word) (v : Byte) :
    Memory.read (Memory.write m a.toNat v) x.toNat = if x = a then v else Memory.read m x.toNat := by
  rw [Memory.read_write]
  by_cases h : x = a
  · rw [if_pos h, if_pos (by rw [h])]
  · rw [if_neg h, if_neg fun e => h (BitVec.eq_of_toNat_eq e)]

/-- A bus write changes the byte at its address and no other. -/
theorem peek_memWrite (a x : Word) (v : Byte) : (s.memWrite a v).peek x = if x = a then v else s.peek x :=
  read_write_word s.mem a x v

theorem memWrite_eq (a : Word) (v : Byte) :
    s.memWrite a v = { s with mem := (s.memWrite a v).mem, bus := s.bus ++ [.write a v] } := rfl

theorem memRead_eq (a : Word) : s.memRead a = (s.peek a, { s with bus := s.bus ++ [.read a] }) := rfl

/-- The word at `a` is `{byte at a + 1, byte at a}`. -/
theorem wordAt_eq_cat (a : Word) : s.wordAt a = cat (s.peek (a + 1)) (s.peek a) := (cat_eq_append _ _).symm

theorem immWord_eq_cat : s.immWord = cat (s.peek (s.pc + 1)) (s.peek s.pc) := (cat_eq_append _ _).symm

/-! ### fetch -/

variable {α : Type} (m : Memory) (tr : List BusAccess)

/-- `Fetch8` on the default bus: the byte at PC, PC up by 1, one read. -/
theorem fetch8_runOn (k : Byte → State → BusProg α) :
    (s.fetch8 k).runOn flatBus m tr =
      (k (Memory.read m s.pc.toNat) { s with pc := s.pc + 1 }).runOn flatBus m (tr ++ [.read s.pc]) := rfl

/-- `Fetch16` on the default bus: the little-endian word at PC, PC up by 2, two reads, the low byte first. -/
theorem fetch16_runOn (k : Word → State → BusProg α) :
    (s.fetch16 k).runOn flatBus m tr =
      (k (cat (Memory.read m (s.pc + 1).toNat) (Memory.read m s.pc.toNat)) { s with pc := s.pc + 2 }).runOn flatBus m
        (tr ++ [.read s.pc, .read (s.pc + 1)]) := by
  have h : s.pc + 1 + 1 = s.pc + 2 := by bv_omega
  simp only [State.fetch16, fetch8_runOn, h, List.append_assoc, List.cons_append, List.nil_append]

/-! ### words written and read -/

/-- The memory with the word `v` written little-endian at `a`, the low byte first. -/
def wordWritten (a v : Word) : Memory := Memory.write (Memory.write m a.toNat (lo v)) (a + 1).toNat (hi v)

/-- The memory with the word `v` pushed on a stack at `sp`, the high byte first. -/
def wordPushed (sp v : Word) : Memory :=
  Memory.write (Memory.write m (sp - 2 + 1).toNat (hi v)) (sp - 2).toNat (lo v)

theorem read_wordWritten (a v x : Word) :
    Memory.read (wordWritten m a v) x.toNat =
      if x = a + 1 then hi v else if x = a then lo v else Memory.read m x.toNat := by
  rw [wordWritten, read_write_word, read_write_word]

theorem read_wordPushed (sp v x : Word) :
    Memory.read (wordPushed m sp v) x.toNat =
      if x = sp - 2 then lo v else if x = sp - 1 then hi v else Memory.read m x.toNat := by
  rw [wordPushed, sub_two_add_one, read_write_word, read_write_word]

/-- `MemWrite(a, 2, v)` on the default bus. -/
theorem write16_runOn (a v : Word) (k : BusProg α) :
    (BusProg.write16 a v k).runOn flatBus m tr =
      k.runOn flatBus (wordWritten m a v) (tr ++ [.write a (lo v), .write (a + 1) (hi v)]) := by
  simp only [BusProg.write16, BusProg.runOn, List.append_assoc, List.cons_append, List.nil_append]
  rfl

/-- `Push16` on the default bus. -/
theorem push16_runOn (v : Word) (k : State → BusProg α) :
    (s.push16 v k).runOn flatBus m tr =
      (k { s with sp := s.sp - 2 }).runOn flatBus (wordPushed m s.sp v)
        (tr ++ [.write (s.sp - 1) (hi v), .write (s.sp - 2) (lo v)]) := by
  simp only [State.push16, BusProg.runOn, List.append_assoc, List.cons_append, List.nil_append, sub_two_add_one]
  rw [wordPushed, sub_two_add_one]
  rfl

/-- `Pop16` on the default bus. -/
theorem pop16_runOn (k : Word → State → BusProg α) :
    (s.pop16 k).runOn flatBus m tr =
      (k (cat (Memory.read m (s.sp + 1).toNat) (Memory.read m s.sp.toNat)) { s with sp := s.sp + 2 }).runOn flatBus m
        (tr ++ [.read s.sp, .read (s.sp + 1)]) := by
  simp only [State.pop16, BusProg.runOn, List.append_assoc, List.cons_append, List.nil_append]
  rfl

/-- What a state holds after `MemWrite(a, 2, v)`: the word, little-endian, and every other byte as before. -/
theorem peek_wordWritten {t : State} {a v : Word} (h : t.mem = wordWritten s.mem a v) :
    t.wordAt a = v ∧ (∀ x, x ≠ a → x ≠ a + 1 → t.peek x = s.peek x) ∧ t.peek a = lo v ∧ t.peek (a + 1) = hi v := by
  have key : ∀ x, t.peek x = if x = a + 1 then hi v else if x = a then lo v else s.peek x := by
    intro x
    rw [peek_eq, h]
    exact read_wordWritten _ _ _ _
  have hlo : t.peek a = lo v := by rw [key, if_neg (add_one_ne_self a).symm, if_pos rfl]
  have hhi : t.peek (a + 1) = hi v := by rw [key, if_pos rfl]
  refine ⟨?_, fun x h1 h2 => by rw [key, if_neg h2, if_neg h1], hlo, hhi⟩
  rw [State.wordAt, hlo, hhi, append_hi_lo]

/-- What a state holds after `Push16(v)`: the word, little-endian, below the old SP, and every other byte as before. -/
theorem peek_wordPushed {t : State} {sp v : Word} (h : t.mem = wordPushed s.mem sp v) :
    t.wordAt (sp - 2) = v ∧ (∀ x, x ≠ sp - 2 → x ≠ sp - 1 → t.peek x = s.peek x) ∧
      t.peek (sp - 1) = hi v ∧ t.peek (sp - 2) = lo v := by
  have key : ∀ x, t.peek x = if x = sp - 2 then lo v else if x = sp - 1 then hi v else s.peek x := by
    intro x
    rw [peek_eq, h]
    exact read_wordPushed _ _ _ _
  have hhi : t.peek (sp - 1) = hi v := by rw [key, if_neg (sub_one_ne_sub_two _), if_pos rfl]
  have hlo : t.peek (sp - 2) = lo v := by rw [key, if_pos rfl]
  refine ⟨?_, fun x h2 h1 => by rw [key, if_neg h2, if_neg h1], hhi, hlo⟩
  rw [State.wordAt, sub_two_add_one, hhi, hlo, append_hi_lo]

/-- What a read-modify-write of the byte at `a` leaves: that byte written, every other as before. -/
theorem peek_written {t : State} {a : Word} {v : Byte} (h : t.mem = Memory.write s.mem a.toNat v) (x : Word) :
    t.peek x = if x = a then v else s.peek x := by
  rw [peek_eq, h]
  exact read_write_word _ _ _ _

/-! ### interrupts -/

theorem lt_eight {k : Nat} (h : k < 8) : k = 0 ∨ k = 1 ∨ k = 2 ∨ k = 3 ∨ k = 4 ∨ k = 5 ∨ k = 6 ∨ k = 7 := by omega

theorem lt_five {k : Nat} (h : k < 5) : k = 0 ∨ k = 1 ∨ k = 2 ∨ k = 3 ∨ k = 4 := by omega

theorem fin_five (i : Fin 5) : i = 0 ∨ i = 1 ∨ i = 2 ∨ i = 3 ∨ i = 4 := by omega

/-- Bit `k` of the pending set: below 5, set in both IE and IF. -/
theorem pending_bit (k : Nat) :
    s.pending.getLsbD k = (decide (k < 5) && ((s.peek 0xFFFF).getLsbD k && (s.peek 0xFF0F).getLsbD k)) := by
  have h : ∀ k, (0x1F : Byte).getLsbD k = decide (k < 5) := by
    intro k
    by_cases hk : k < 8
    · rcases lt_eight hk with rfl | rfl | rfl | rfl | rfl | rfl | rfl | rfl <;> rfl
    · rw [BitVec.getLsbD_of_ge _ _ (by omega), eq_comm, decide_eq_false_iff_not]
      omega
  simp only [State.pending, pendingIn, addrIE, addrIF, BitVec.getLsbD_and, h]
  exact Bool.and_comm _ _

theorem pending_eq_zero_iff :
    s.pending = 0 ↔ ∀ k < 5, ¬ ((s.peek 0xFFFF).getLsbD k ∧ (s.peek 0xFF0F).getLsbD k) := by
  constructor
  · intro h k hk
    have := pending_bit s k
    simp only [h, hk, decide_true, Bool.true_and] at this
    simpa using this.symm
  · intro h
    apply BitVec.eq_of_getLsbD_eq
    intro k _
    rw [pending_bit]
    by_cases hk : k < 5
    · have := h k hk
      simp only [hk, decide_true, Bool.true_and]
      simpa using this
    · simp [hk]

/-- `Selected`: the least index with its bit set. -/
theorem selected_eq_some_iff (p : Byte) (i : Fin 5) :
    selected p = some i ↔ p.getLsbD i.val = true ∧ ∀ j : Fin 5, j < i → p.getLsbD j.val = false := by
  unfold selected
  have hj : ∀ P : Fin 5 → Prop, (∀ j, P j) ↔ P 0 ∧ P 1 ∧ P 2 ∧ P 3 ∧ P 4 := fun P =>
    ⟨fun h => ⟨h 0, h 1, h 2, h 3, h 4⟩, fun ⟨h0, h1, h2, h3, h4⟩ j => by
      rcases fin_five j with rfl | rfl | rfl | rfl | rfl <;> assumption⟩
  rw [hj]
  generalize h0 : p.getLsbD 0 = b0
  generalize h1 : p.getLsbD 1 = b1
  generalize h2 : p.getLsbD 2 = b2
  generalize h3 : p.getLsbD 3 = b3
  generalize h4 : p.getLsbD 4 = b4
  rcases fin_five i with rfl | rfl | rfl | rfl | rfl <;>
    simp only [show (0 : Fin 5).val = 0 from rfl, show (1 : Fin 5).val = 1 from rfl, show (2 : Fin 5).val = 2 from rfl,
      show (3 : Fin 5).val = 3 from rfl, show (4 : Fin 5).val = 4 from rfl, h0, h1, h2, h3, h4] <;>
    clear h0 h1 h2 h3 h4 hj <;>
    cases b0 <;> cases b1 <;> cases b2 <;> cases b3 <;> cases b4 <;> decide

/-- Nothing is selected exactly when none of bits 0 to 4 is set. -/
theorem selected_eq_none_iff (p : Byte) : selected p = none ↔ ∀ k < 5, p.getLsbD k = false := by
  unfold selected
  constructor
  · intro h k hk
    rcases lt_five hk with rfl | rfl | rfl | rfl | rfl <;> (apply Bool.eq_false_iff.2; intro hb; simp [hb] at h)
    all_goals (repeat' split at h) <;> cases h
  · intro h
    rw [h 0 (by omega), h 1 (by omega), h 2 (by omega), h 3 (by omega), h 4 (by omega)]
    rfl

theorem selected_pending_isSome (h : s.pending ≠ 0) : ∃ i, selected s.pending = some i := by
  cases hs : selected s.pending with
  | some i => exact ⟨i, rfl⟩
  | none =>
    refine absurd ?_ h
    rw [pending_eq_zero_iff]
    intro k hk
    have := (selected_eq_none_iff _).1 hs k hk
    rw [pending_bit] at this
    simp only [hk, decide_true, Bool.true_and] at this
    simpa using this

theorem acknowledged_bit (v : Byte) (i : Fin 5) (k : Nat) (hk : k < 8) :
    (acknowledged v i).getLsbD k = (decide (k ≠ i.val) && v.getLsbD k) := by
  have hm : (~~~((1 : Byte) <<< i.val)).getLsbD k = decide (k ≠ i.val) := by
    rcases fin_five i with rfl | rfl | rfl | rfl | rfl <;>
      rcases lt_eight hk with rfl | rfl | rfl | rfl | rfl | rfl | rfl | rfl <;> rfl
  rw [acknowledged, BitVec.getLsbD_and, hm, Bool.and_comm]

/-- What `Dispatch(i)` does on the default bus, for every vector table. -/
theorem dispatch_spec (vec : Fin 5 → Word) (i : Fin 5) :
    (onFlat (dispatch vec i) s).wordAt (s.sp - 2) = s.pc ∧
    (∀ x, x ≠ s.sp - 2 → x ≠ s.sp - 1 → (onFlat (dispatch vec i) s).peek x =
      if x = 0xFF0F then acknowledged (s.peek 0xFF0F) i else s.peek x) ∧
    onFlat (dispatch vec i) s = { s with
      ime := false, imePending := false, sp := s.sp - 2, pc := vec i
      mem := (onFlat (dispatch vec i) s).mem, status := .interrupt i, cycles := 5
      bus := s.bus ++ [.read 0xFF0F, .write 0xFF0F (acknowledged (s.peek 0xFF0F) i),
        .write (s.sp - 1) ((onFlat (dispatch vec i) s).peek (s.sp - 1)),
        .write (s.sp - 2) ((onFlat (dispatch vec i) s).peek (s.sp - 2))] } := by
  let u : State := s.memWrite 0xFF0F (acknowledged (s.peek 0xFF0F) i)
  have heq : onFlat (dispatch vec i) s = { s with
      ime := false, imePending := false, sp := s.sp - 2, pc := vec i, mem := wordPushed u.mem s.sp s.pc
      status := .interrupt i, cycles := 5
      bus := s.bus ++ [.read 0xFF0F, .write 0xFF0F (acknowledged (s.peek 0xFF0F) i),
        .write (s.sp - 1) (hi s.pc), .write (s.sp - 2) (lo s.pc)] } := by
    simp only [onFlat, dispatch, BusProg.intAck, BusProg.runOn, push16_runOn, State.report, List.append_assoc,
      List.cons_append, List.nil_append]
    rfl
  obtain ⟨hw, hx, hh, hl⟩ := peek_wordPushed u (t := onFlat (dispatch vec i) s) (by rw [heq])
  refine ⟨hw, fun x h2 h1 => ?_, ?_⟩
  · rw [hx x h2 h1]
    exact peek_memWrite _ _ _ _
  · rw [hh, hl]
    exact heq.trans (by rw [heq])

/-! ### memory changes only by writes on the bus -/

/-- From `s` to `t` the bus has been extended, and memory is what the added writes make of it. -/
def Traced (s t : State) : Prop := ∃ p, t.bus = s.bus ++ p ∧ t.mem = replay s.mem p

theorem Traced.refl : Traced s s := ⟨[], by simp, rfl⟩

theorem Traced.of_eq {s t : State} (hb : t.bus = s.bus) (hm : t.mem = s.mem) : Traced s t :=
  ⟨[], by simp [hb], by simp [hm, replay]⟩

theorem Traced.trans {s t u : State} : Traced s t → Traced t u → Traced s u
  | ⟨p, hb, hm⟩, ⟨q, hb', hm'⟩ => ⟨p ++ q, by rw [hb', hb, List.append_assoc], by rw [hm', hm, replay_append]⟩

/-- The state that another one agrees with in bus and memory may stand in its place. -/
theorem Traced.congr {s t t' : State} (h : Traced s t) (hb : t'.bus = t.bus) (hm : t'.mem = t.mem) : Traced s t' :=
  h.trans (Traced.of_eq hb hm)

theorem Traced.congr_left {s s' t : State} (h : Traced s t) (hb : s.bus = s'.bus) (hm : s.mem = s'.mem) :
    Traced s' t :=
  (Traced.of_eq hb hm).trans h

theorem Traced.wf {s t : State} (h : Traced s t) (hm : Memory.wf s.mem = true) : Memory.wf t.mem = true := by
  obtain ⟨p, -, hp⟩ := h
  rw [hp]
  exact wf_replay _ _ hm

/-- An effect changes memory only by writes that it puts on the bus. -/
theorem traced_onFlat (effect : State → BusProg State) : Traced s (onFlat effect s) :=
  ⟨(effect s).trace flatBus s.mem, by rw [onFlat_eq], by rw [onFlat_eq]⟩

theorem traced_pastByte : Traced s s.pastByte := ⟨[.read s.pc], rfl, rfl⟩

end Sys2Proof.Machine
end

