-- ==== Sys2Proof/Laws/Effects.lean ====
section
/-! SUPPORT. What every effect leaves alone or keeps, whatever the form and whatever the bus answers: the interrupt state,
the run state, the low nibble of F, what it reports; then the same of `exec`. -/

namespace Sys2Proof.Machine

theorem masked_low (v : Byte) : v &&& 0xF0 &&& 0x0F = 0 := by
  simp [BitVec.and_assoc]

theorem all_ite {Q : State → Prop} (c : Bool) (P P' : BusProg State) (h : P.All Q) (h' : P'.All Q) :
    (if c then P else P').All Q := by
  cases c
  · exact h'
  · exact h

/-! ### the interrupt state -/

theorem extProg_ime (e : ExtForm) (s : State) :
    (extProg e s).All fun t => t.ime = s.ime ∧ t.imePending = s.imePending := by
  cases e with
  | rotReg op r => cases r <;> exact ⟨rfl, rfl⟩
  | rotAtHL op => exact fun _ => ⟨rfl, rfl⟩
  | bitReg i r => exact ⟨rfl, rfl⟩
  | bitAtHL i => exact fun _ => ⟨rfl, rfl⟩
  | resReg i r => cases r <;> exact ⟨rfl, rfl⟩
  | resAtHL i => exact fun _ => ⟨rfl, rfl⟩
  | setBitReg i r => cases r <;> exact ⟨rfl, rfl⟩
  | setBitAtHL i => exact fun _ => ⟨rfl, rfl⟩

/-- Only DI, EI and RETI write IME or ime_pending. -/
theorem formProg_ime (f : Form) (s : State) (hf : f ≠ .di ∧ f ≠ .ei ∧ f ≠ .reti) :
    (formProg f s).All fun t => t.ime = s.ime ∧ t.imePending = s.imePending := by
  cases f with
  | ext e => exact extProg_ime e s
  | prefixCB => exact fun v => extProg_ime (extForm v) { s with run := .fetching, pc := s.pc + 1 }
  | jrCond cc => exact fun v => all_ite _ _ _ ⟨rfl, rfl⟩ ⟨rfl, rfl⟩
  | jpCond cc => exact fun v w => all_ite _ _ _ ⟨rfl, rfl⟩ ⟨rfl, rfl⟩
  | callCond cc => exact fun v w => all_ite _ _ _ ⟨rfl, rfl⟩ ⟨rfl, rfl⟩
  | retCond cc => exact all_ite _ _ _ (fun _ _ => ⟨rfl, rfl⟩) ⟨rfl, rfl⟩
  | ldRegReg x y => cases x <;> exact ⟨rfl, rfl⟩
  | ldRegAtHL x => exact fun _ => by cases x <;> exact ⟨rfl, rfl⟩
  | ldRegImm x => exact fun _ => by cases x <;> exact ⟨rfl, rfl⟩
  | ldMemA x => cases x <;> exact ⟨rfl, rfl⟩
  | ldAMem x => cases x <;> exact fun _ => ⟨rfl, rfl⟩
  | ldR16Imm x => exact fun _ _ => by cases x <;> exact ⟨rfl, rfl⟩
  | incR16 x => cases x <;> exact ⟨rfl, rfl⟩
  | decR16 x => cases x <;> exact ⟨rfl, rfl⟩
  | pop x => exact fun _ _ => by cases x <;> exact ⟨rfl, rfl⟩
  | aluReg x y => cases x <;> exact ⟨rfl, rfl⟩
  | aluAtHL x => exact fun _ => by cases x <;> exact ⟨rfl, rfl⟩
  | aluImm x => exact fun _ => by cases x <;> exact ⟨rfl, rfl⟩
  | incReg x => cases x <;> exact ⟨rfl, rfl⟩
  | decReg x => cases x <;> exact ⟨rfl, rfl⟩
  | di => exact absurd rfl hf.1
  | ei => exact absurd rfl hf.2.1
  | reti => exact absurd rfl hf.2.2
  | _ => first | exact ⟨rfl, rfl⟩ | exact fun _ => ⟨rfl, rfl⟩ | exact fun _ _ => ⟨rfl, rfl⟩ | exact fun _ _ _ => ⟨rfl, rfl⟩

/-- No effect leaves ime_pending = 1 with IME = 1. -/
theorem formProg_ime_inv (f : Form) (s : State) (h : s.imePending = true → s.ime = false) :
    (formProg f s).All fun t => t.imePending = true → t.ime = false := by
  by_cases hd : f = .di
  · subst hd
    intro hp
    cases hp
  · by_cases hr : f = .reti
    · subst hr
      intro _ _ hp
      cases hp
    · by_cases he : f = .ei
      · subst he
        intro hp
        have hp' : (if s.ime = true then s.imePending else true) = true := hp
        change s.ime = false
        cases hime : s.ime with
        | false => rfl
        | true =>
          rw [hime, if_pos rfl] at hp'
          exact hime.symm.trans (h hp')
      · exact (formProg_ime f s ⟨hd, he, hr⟩).imp fun t ht => by rw [ht.1, ht.2]; exact h

/-! ### the run state and the status -/

/-- The run state that a form leaves. -/
def runAfter (f : Form) (r : RunState) : RunState :=
  match f with
  | .halt => .halted
  | .stop => .stopped
  | .illegal x => .faulted x.byte
  | .prefixCB => .fetching
  | _ => r

/-- The status that a form reports. -/
def statusAfter (f : Form) : StepStatus :=
  match f with
  | .halt => .halted
  | .stop => .stopped
  | .illegal x => .faulted x.byte
  | _ => .ran

theorem extProg_run (e : ExtForm) (s : State) : (extProg e s).All fun t => t.run = s.run ∧ t.status = .ran := by
  cases e with
  | rotReg op r => cases r <;> exact ⟨rfl, rfl⟩
  | rotAtHL op => exact fun _ => ⟨rfl, rfl⟩
  | bitReg i r => exact ⟨rfl, rfl⟩
  | bitAtHL i => exact fun _ => ⟨rfl, rfl⟩
  | resReg i r => cases r <;> exact ⟨rfl, rfl⟩
  | resAtHL i => exact fun _ => ⟨rfl, rfl⟩
  | setBitReg i r => cases r <;> exact ⟨rfl, rfl⟩
  | setBitAtHL i => exact fun _ => ⟨rfl, rfl⟩

/-- The run state and the status after every effect. -/
theorem formProg_run (f : Form) (s : State) :
    (formProg f s).All fun t => t.run = runAfter f s.run ∧ t.status = statusAfter f := by
  cases f with
  | ext e => exact extProg_run e s
  | prefixCB => exact fun v => extProg_run (extForm v) { s with run := .fetching, pc := s.pc + 1 }
  | jrCond cc => exact fun v => all_ite _ _ _ ⟨rfl, rfl⟩ ⟨rfl, rfl⟩
  | jpCond cc => exact fun v w => all_ite _ _ _ ⟨rfl, rfl⟩ ⟨rfl, rfl⟩
  | callCond cc => exact fun v w => all_ite _ _ _ ⟨rfl, rfl⟩ ⟨rfl, rfl⟩
  | retCond cc => exact all_ite _ _ _ (fun _ _ => ⟨rfl, rfl⟩) ⟨rfl, rfl⟩
  | ldRegReg x y => cases x <;> exact ⟨rfl, rfl⟩
  | ldRegAtHL x => exact fun _ => by cases x <;> exact ⟨rfl, rfl⟩
  | ldRegImm x => exact fun _ => by cases x <;> exact ⟨rfl, rfl⟩
  | ldMemA x => cases x <;> exact ⟨rfl, rfl⟩
  | ldAMem x => cases x <;> exact fun _ => ⟨rfl, rfl⟩
  | ldR16Imm x => exact fun _ _ => by cases x <;> exact ⟨rfl, rfl⟩
  | incR16 x => cases x <;> exact ⟨rfl, rfl⟩
  | decR16 x => cases x <;> exact ⟨rfl, rfl⟩
  | pop x => exact fun _ _ => by cases x <;> exact ⟨rfl, rfl⟩
  | aluReg x y => cases x <;> exact ⟨rfl, rfl⟩
  | aluAtHL x => exact fun _ => by cases x <;> exact ⟨rfl, rfl⟩
  | aluImm x => exact fun _ => by cases x <;> exact ⟨rfl, rfl⟩
  | incReg x => cases x <;> exact ⟨rfl, rfl⟩
  | decReg x => cases x <;> exact ⟨rfl, rfl⟩
  | _ => first | exact ⟨rfl, rfl⟩ | exact fun _ => ⟨rfl, rfl⟩ | exact fun _ _ => ⟨rfl, rfl⟩ | exact fun _ _ _ => ⟨rfl, rfl⟩

/-! ### the low nibble of F -/

theorem extProg_low_nibble (e : ExtForm) (s : State) (h : s.f &&& 0x0F = 0) :
    (extProg e s).All fun t => t.f &&& 0x0F = 0 := by
  cases e with
  | rotReg op r => exact flagByte_low _ _ _ _
  | rotAtHL op => exact fun _ => flagByte_low _ _ _ _
  | bitReg i r => exact flagByte_low _ _ _ _
  | bitAtHL i => exact fun _ => flagByte_low _ _ _ _
  | resReg i r => cases r <;> exact h
  | resAtHL i => exact fun _ => h
  | setBitReg i r => cases r <;> exact h
  | setBitAtHL i => exact fun _ => h

/-- An effect keeps the low nibble of F zero. -/
theorem formProg_low_nibble (f : Form) (s : State) (h : s.f &&& 0x0F = 0) :
    (formProg f s).All fun t => t.f &&& 0x0F = 0 := by
  cases f with
  | ext e => exact extProg_low_nibble e s h
  | prefixCB => exact fun v => extProg_low_nibble (extForm v) { s with run := .fetching, pc := s.pc + 1 } h
  | jrCond cc => exact fun v => all_ite _ _ _ h h
  | jpCond cc => exact fun v w => all_ite _ _ _ h h
  | callCond cc => exact fun v w => all_ite _ _ _ h h
  | retCond cc => exact all_ite _ _ _ (fun _ _ => h) h
  | ldRegReg x y => cases x <;> exact h
  | ldRegAtHL x => exact fun _ => by cases x <;> exact h
  | ldRegImm x => exact fun _ => by cases x <;> exact h
  | ldMemA x => cases x <;> exact h
  | ldAMem x => cases x <;> exact fun _ => h
  | ldR16Imm x => exact fun _ _ => by cases x <;> exact h
  | incR16 x => cases x <;> exact h
  | decR16 x => cases x <;> exact h
  | pop x =>
    cases x
    · exact fun _ _ => h
    · exact fun _ _ => h
    · exact fun _ _ => h
    · exact fun _ _ => masked_low _
  | aluReg x y => cases x <;> exact flagByte_low _ _ _ _
  | aluAtHL x => exact fun _ => by cases x <;> exact flagByte_low _ _ _ _
  | aluImm x => exact fun _ => by cases x <;> exact flagByte_low _ _ _ _
  | incReg x => exact flagByte_low _ _ _ _
  | decReg x => exact flagByte_low _ _ _ _
  | incAtHL => exact fun _ => flagByte_low _ _ _ _
  | decAtHL => exact fun _ => flagByte_low _ _ _ _
  | addHLR16 x => exact flagByte_low _ _ _ _
  | addSPe8 => exact fun _ => flagByte_low _ _ _ _
  | ldHLSPe8 => exact fun _ => flagByte_low _ _ _ _
  | daa => exact flagByte_low _ _ _ _
  | cpl => exact flagByte_low _ _ _ _
  | scf => exact flagByte_low _ _ _ _
  | ccf => exact flagByte_low _ _ _ _
  | rlca => exact flagByte_low _ _ _ _
  | rrca => exact flagByte_low _ _ _ _
  | rla => exact flagByte_low _ _ _ _
  | rra => exact flagByte_low _ _ _ _
  | _ => first | exact h | exact fun _ => h | exact fun _ _ => h | exact fun _ _ _ => h

/-! ### every instruction at once -/

theorem exec_traced {i : Instr} {s t : State} (h : exec i s = .next t) : Traced s t := by
  rw [exec_eq] at h
  cases h
  exact traced_onFlat s _

/-- What holds of every result of an effect, and does not look at memory or trace, holds after `exec`. -/
theorem exec_all {Q : State → Prop} {i : Instr} {s t : State} (h : exec i s = .next t)
    (hQ : (formProg (formOf i) s).All Q) (hm : ∀ (t : State) (m : Memory) (tr : List BusAccess), Q t →
      Q { t with mem := m, bus := tr }) : Q t := by
  rw [exec_eq] at h
  cases h
  exact hQ.onFlat hm

theorem ne_of_row_ne {i : Instr} {f : Form} (h : i ≠ f.row) : formOf i ≠ f := by
  intro e
  exact h (by rw [← e, row_formOf])

/-- `exec` leaves IME and ime_pending alone but for DI, EI and RETI. -/
theorem exec_ime {i : Instr} {s t : State} (h : exec i s = .next t) (hi : i ≠ .di ∧ i ≠ .ei ∧ i ≠ .reti) :
    t.ime = s.ime ∧ t.imePending = s.imePending :=
  exec_all h (formProg_ime _ s ⟨ne_of_row_ne (f := .di) hi.1, ne_of_row_ne (f := .ei) hi.2.1,
    ne_of_row_ne (f := .reti) hi.2.2⟩) fun _ _ _ hq => hq

theorem exec_ime_inv {i : Instr} {s t : State} (h : exec i s = .next t) (hs : s.imePending = true → s.ime = false) :
    t.imePending = true → t.ime = false :=
  exec_all h (formProg_ime_inv _ s hs) fun _ _ _ hq => hq

/-- The run state and the status after `exec`. -/
theorem exec_run {i : Instr} {s t : State} (h : exec i s = .next t) :
    t.run = runAfter (formOf i) s.run ∧ t.status = statusAfter (formOf i) :=
  exec_all h (formProg_run _ s) fun _ _ _ hq => hq

theorem exec_low_nibble {i : Instr} {s t : State} (h : exec i s = .next t) (hs : s.f &&& 0x0F = 0) : t.f &&& 0x0F = 0 :=
  exec_all h (formProg_low_nibble _ s hs) fun _ _ _ hq => hq

/-- `exec` reports no interrupt. -/
theorem exec_status_ne_interrupt {i : Instr} {s t : State} (h : exec i s = .next t) (n : Fin 5) :
    t.status ≠ .interrupt n := by
  rw [(exec_run h).2]
  cases formOf i <;> intro e <;> cases e

/-- The illegal rows are the rows of the illegal forms. -/
theorem mem_illegalRows_iff (i : Instr) : i ∈ illegalRows ↔ ∃ x, formOf i = .illegal x := by
  constructor
  · intro h
    have key : ∀ j ∈ illegalRows, ∃ x, x ∈ [IllegalOp.xD3, .xDB, .xDD, .xE3, .xE4, .xEB, .xEC, .xED, .xF4, .xFC, .xFD] ∧
        formOf j = .illegal x := by decide +kernel
    obtain ⟨x, -, hx⟩ := key i h
    exact ⟨x, hx⟩
  · rintro ⟨x, hx⟩
    have := row_formOf i
    rw [hx] at this
    subst this
    cases x <;> decide

theorem decodeExt_ordinary : ∀ b : Byte,
    decodeExt b ≠ .prefix_CB ∧ decodeExt b ≠ .di ∧ decodeExt b ≠ .ei ∧ decodeExt b ≠ .reti ∧
      decodeExt b ≠ .halt ∧ decodeExt b ≠ .stop ∧ decodeExt b ∉ illegalRows := by
  decide +kernel

end Sys2Proof.Machine
end

