-- ==== Sys2Proof/Laws/Forms.lean ====
section
/-! SUPPORT. What the effect of each form leaves on the default bus, as one expression of the state before it. -/

namespace Sys2Proof.Machine

variable (s : State)

/-- `s` once a byte has been read at `a`. -/
def State.hasRead (s : State) (a : Word) : State := { s with bus := s.bus ++ [.read a] }

/-- `s` once the word `v` has been stored at `a`, the low byte first. -/
def State.wordStored (s : State) (a v : Word) : State :=
  { s with mem := wordWritten s.mem a v, bus := s.bus ++ [.write a (lo v), .write (a + 1) (hi v)] }

/-- `s` once the word `v` has been pushed. -/
def State.pushed (s : State) (v : Word) : State :=
  { s with
    sp := s.sp - 2, mem := wordPushed s.mem s.sp v
    bus := s.bus ++ [.write (s.sp - 1) (hi v), .write (s.sp - 2) (lo v)] }

/-- `s` once the word at SP has been popped. -/
def State.popped (s : State) : State := { s with sp := s.sp + 2, bus := s.bus ++ [.read s.sp, .read (s.sp + 1)] }

theorem wordAt_eq_read (a : Word) :
    s.wordAt a = cat (Memory.read s.mem (a + 1).toNat) (Memory.read s.mem a.toNat) := wordAt_eq_cat s a

/-! ### loads -/

theorem onFlat_ldRegReg (dst src : Reg) : onFlat (ldRegReg dst src) s = (s.setReg dst (s.reg src)).ran 1 := by
  cases dst <;> rfl

theorem onFlat_ldRegAtHL (dst : Reg) : onFlat (ldRegAtHL dst) s = ((s.hasRead s.hl).setReg dst (s.peek s.hl)).ran 2 := by
  cases dst <;> rfl

theorem onFlat_ldAtHLReg (r : Reg) : onFlat (ldAtHLReg r) s = (s.memWrite s.hl (s.reg r)).ran 2 := rfl

theorem onFlat_ldRegImm (dst : Reg) : onFlat (ldRegImm dst) s = (s.pastByte.setReg dst (s.peek s.pc)).ran 2 := by
  cases dst <;> rfl

theorem onFlat_ldAtHLImm : onFlat ldAtHLImm s = (s.pastByte.memWrite s.hl (s.peek s.pc)).ran 3 := rfl

theorem onFlat_ldMemA (m : R16Mem) :
    onFlat (ldMemA m) s = ((s.r16mem m).2.memWrite (s.r16mem m).1 s.a).ran 2 := by
  cases m <;> rfl

theorem onFlat_ldAMem (m : R16Mem) :
    onFlat (ldAMem m) s = State.ran { (s.r16mem m).2.hasRead (s.r16mem m).1 with a := s.peek (s.r16mem m).1 } 2 := by
  cases m <;> rfl

theorem onFlat_ldhAtCA : onFlat ldhAtCA s = (s.memWrite (highPage s.c) s.a).ran 2 := rfl

theorem onFlat_ldhAAtC :
    onFlat ldhAAtC s = State.ran { s.hasRead (highPage s.c) with a := s.peek (highPage s.c) } 2 := rfl

theorem onFlat_ldhAtImmA : onFlat ldhAtImmA s = (s.pastByte.memWrite (highPage (s.peek s.pc)) s.a).ran 3 := rfl

theorem onFlat_ldhAAtImm :
    onFlat ldhAAtImm s =
      State.ran { s.pastByte.hasRead (highPage (s.peek s.pc)) with a := s.peek (highPage (s.peek s.pc)) } 3 := rfl

theorem onFlat_ldAtImm16A : onFlat ldAtImm16A s = (s.pastWord.memWrite s.immWord s.a).ran 4 := by
  simp only [onFlat, ldAtImm16A, fetch16_runOn, immWord_eq_cat]
  rfl

theorem onFlat_ldAAtImm16 :
    onFlat ldAAtImm16 s = State.ran { s.pastWord.hasRead s.immWord with a := s.peek s.immWord } 4 := by
  simp only [onFlat, ldAAtImm16, fetch16_runOn, immWord_eq_cat]
  rfl

theorem onFlat_ldR16Imm (r : R16) : onFlat (ldR16Imm r) s = (s.pastWord.setR16 r s.immWord).ran 3 := by
  simp only [onFlat, ldR16Imm, fetch16_runOn, immWord_eq_cat]
  cases r <;> rfl

theorem onFlat_ldAtImm16SP : onFlat ldAtImm16SP s = (s.pastWord.wordStored s.immWord s.sp).ran 5 := by
  simp only [onFlat, ldAtImm16SP, fetch16_runOn, write16_runOn, immWord_eq_cat]
  rfl

theorem onFlat_ldSPHL : onFlat ldSPHL s = State.ran { s with sp := s.hl } 2 := rfl

theorem onFlat_ldHLSPe8 :
    onFlat ldHLSPe8 s = ((s.pastByte.setHL (addSpE8 s.sp (s.peek s.pc)).val).setFlags false false
      (addSpE8 s.sp (s.peek s.pc)).h (addSpE8 s.sp (s.peek s.pc)).c).ran 3 := rfl

/-! ### arithmetic and logic -/

theorem onFlat_aluReg (op : AluOp) (r : Reg) : onFlat (aluReg op r) s = (s.alu op (s.reg r)).ran 1 := by
  cases op <;> rfl

theorem onFlat_aluAtHL (op : AluOp) : onFlat (aluAtHL op) s = ((s.hasRead s.hl).alu op (s.peek s.hl)).ran 2 := by
  cases op <;> rfl

theorem onFlat_aluImm (op : AluOp) : onFlat (aluImm op) s = (s.pastByte.alu op (s.peek s.pc)).ran 2 := by
  cases op <;> rfl

theorem onFlat_incReg (r : Reg) :
    onFlat (incReg r) s = ((s.setReg r (inc8 (s.reg r)).1).setFlags ((inc8 (s.reg r)).1 == 0) false (inc8 (s.reg r)).2
      s.flagC).ran 1 := by
  cases r <;> rfl

theorem onFlat_decReg (r : Reg) :
    onFlat (decReg r) s = ((s.setReg r (dec8 (s.reg r)).1).setFlags ((dec8 (s.reg r)).1 == 0) true (dec8 (s.reg r)).2
      s.flagC).ran 1 := by
  cases r <;> rfl

theorem onFlat_incAtHL :
    onFlat incAtHL s = (((s.hasRead s.hl).memWrite s.hl (inc8 (s.peek s.hl)).1).setFlags
      ((inc8 (s.peek s.hl)).1 == 0) false (inc8 (s.peek s.hl)).2 s.flagC).ran 3 := rfl

theorem onFlat_decAtHL :
    onFlat decAtHL s = (((s.hasRead s.hl).memWrite s.hl (dec8 (s.peek s.hl)).1).setFlags
      ((dec8 (s.peek s.hl)).1 == 0) true (dec8 (s.peek s.hl)).2 s.flagC).ran 3 := rfl

theorem onFlat_incR16 (r : R16) : onFlat (incR16 r) s = (s.setR16 r (s.r16 r + 1)).ran 2 := by
  cases r <;> rfl

theorem onFlat_decR16 (r : R16) : onFlat (decR16 r) s = (s.setR16 r (s.r16 r - 1)).ran 2 := by
  cases r <;> rfl

theorem onFlat_addHLR16 (r : R16) :
    onFlat (addHLR16 r) s = ((s.setHL (add16 s.hl (s.r16 r)).val).setFlags s.flagZ false (add16 s.hl (s.r16 r)).h
      (add16 s.hl (s.r16 r)).c).ran 2 := rfl

theorem onFlat_addSPe8 :
    onFlat addSPe8 s = (State.setFlags { s.pastByte with sp := (addSpE8 s.sp (s.peek s.pc)).val } false false
      (addSpE8 s.sp (s.peek s.pc)).h (addSpE8 s.sp (s.peek s.pc)).c).ran 4 := rfl

/-! ### rotates, shifts and bits -/

theorem onFlat_rotA (op : RotOp) :
    onFlat (rotA op) s = (State.setFlags { s with a := (rotate op s.a s.flagC).1 } false false false
      (rotate op s.a s.flagC).2).ran 1 := rfl

theorem onFlat_rotReg (op : RotOp) (r : Reg) :
    onFlat (rotReg op r) s = ((s.setReg r (rotate op (s.reg r) s.flagC).1).setFlags
      ((rotate op (s.reg r) s.flagC).1 == 0) false false (rotate op (s.reg r) s.flagC).2).ran 2 := by
  cases r <;> rfl

theorem onFlat_rotAtHL (op : RotOp) :
    onFlat (rotAtHL op) s = (((s.hasRead s.hl).memWrite s.hl (rotate op (s.peek s.hl) s.flagC).1).setFlags
      ((rotate op (s.peek s.hl) s.flagC).1 == 0) false false (rotate op (s.peek s.hl) s.flagC).2).ran 4 := rfl

theorem onFlat_bitReg (i : Idx3) (r : Reg) :
    onFlat (bitReg i r) s = (s.setFlags (!(s.reg r).getLsbD i.num) false true s.flagC).ran 2 := rfl

theorem onFlat_bitAtHL (i : Idx3) :
    onFlat (bitAtHL i) s = ((s.hasRead s.hl).setFlags (!(s.peek s.hl).getLsbD i.num) false true s.flagC).ran 3 := rfl

theorem onFlat_resReg (i : Idx3) (r : Reg) :
    onFlat (resReg i r) s = (s.setReg r (s.reg r &&& ~~~(bitMask i))).ran 2 := by
  cases r <;> rfl

theorem onFlat_resAtHL (i : Idx3) :
    onFlat (resAtHL i) s = ((s.hasRead s.hl).memWrite s.hl (s.peek s.hl &&& ~~~(bitMask i))).ran 4 := rfl

theorem onFlat_setBitReg (i : Idx3) (r : Reg) :
    onFlat (setBitReg i r) s = (s.setReg r (s.reg r ||| bitMask i)).ran 2 := by
  cases r <;> rfl

theorem onFlat_setBitAtHL (i : Idx3) :
    onFlat (setBitAtHL i) s = ((s.hasRead s.hl).memWrite s.hl (s.peek s.hl ||| bitMask i)).ran 4 := rfl

/-! ### control flow and stack -/

theorem onFlat_jr : onFlat jr s = State.ran { s.pastByte with pc := s.pc + 1 + sext16 (s.peek s.pc) } 3 := rfl

theorem onFlat_jrCond (cc : Cond) :
    onFlat (jrCond cc) s =
      if s.holds cc then State.ran { s.pastByte with pc := s.pc + 1 + sext16 (s.peek s.pc) } 3 else s.pastByte.ran 2 := by
  have h : State.holds { s with pc := s.pc + 1 } cc = s.holds cc := by cases cc <;> rfl
  simp only [onFlat, jrCond, fetch8_runOn, h]
  cases s.holds cc <;> rfl

theorem onFlat_jp : onFlat jp s = State.ran { s.pastWord with pc := s.immWord } 4 := by
  simp only [onFlat, jp, fetch16_runOn, immWord_eq_cat]
  rfl

theorem onFlat_jpCond (cc : Cond) :
    onFlat (jpCond cc) s = if s.holds cc then State.ran { s.pastWord with pc := s.immWord } 4 else s.pastWord.ran 3 := by
  have h : State.holds { s with pc := s.pc + 2 } cc = s.holds cc := by cases cc <;> rfl
  simp only [onFlat, jpCond, fetch16_runOn, immWord_eq_cat, h]
  cases s.holds cc <;> rfl

theorem onFlat_jpHL : onFlat jpHL s = State.ran { s with pc := s.hl } 1 := rfl

theorem onFlat_call : onFlat call s = State.ran { s.pastWord.pushed s.pastWord.pc with pc := s.immWord } 6 := by
  simp only [onFlat, call, State.callTo, fetch16_runOn, push16_runOn, immWord_eq_cat]
  rfl

theorem onFlat_callCond (cc : Cond) :
    onFlat (callCond cc) s =
      if s.holds cc then State.ran { s.pastWord.pushed s.pastWord.pc with pc := s.immWord } 6
      else s.pastWord.ran 3 := by
  have h : State.holds { s with pc := s.pc + 2 } cc = s.holds cc := by cases cc <;> rfl
  simp only [onFlat, callCond, State.callTo, fetch16_runOn, immWord_eq_cat, h]
  cases s.holds cc
  · rfl
  · simp only [if_true, push16_runOn]
    rfl

theorem onFlat_ret : onFlat ret s = State.ran { s.popped with pc := s.wordAt s.sp } 4 := by
  simp only [onFlat, ret, State.returnToCaller, pop16_runOn, wordAt_eq_read]
  rfl

theorem onFlat_retCond (cc : Cond) :
    onFlat (retCond cc) s =
      if s.holds cc then State.ran { s.popped with pc := s.wordAt s.sp } 5 else s.ran 2 := by
  simp only [onFlat, retCond, State.returnToCaller, wordAt_eq_read]
  cases s.holds cc
  · rfl
  · simp only [if_true, pop16_runOn]
    rfl

theorem onFlat_reti :
    onFlat reti s = State.ran { s.popped with pc := s.wordAt s.sp, ime := true, imePending := false } 4 := by
  simp only [onFlat, reti, State.returnFromInterrupt, pop16_runOn, wordAt_eq_read]
  rfl

theorem onFlat_rst (t : Idx3) :
    onFlat (rst t) s = State.ran { s.pushed s.pc with pc := BitVec.ofNat 16 (8 * t.num) } 4 := by
  simp only [onFlat, rst, State.callTo, push16_runOn]
  rfl

theorem onFlat_push (r : R16Stk) : onFlat (push r) s = (s.pushed (s.r16stk r)).ran 4 := by
  simp only [onFlat, push, push16_runOn]
  rfl

theorem onFlat_pop (r : R16Stk) : onFlat (pop r) s = (s.popped.setR16stk r (s.wordAt s.sp)).ran 3 := by
  simp only [onFlat, pop, pop16_runOn, wordAt_eq_read]
  cases r <;> rfl

end Sys2Proof.Machine
end

