-- ==== Sys2Proof/Laws/PerInstr.lean ====
section
/-! SUPPORT. For every instruction: its encoding is the opcode byte, or the prefix and the byte, that the
decoders read as it. -/

namespace Sys2Proof.Laws.OpcodeBytes

/-- `encode i` is one byte that the base decoder reads as `i`, or 0xCB and one byte that the extended decoder reads
as `i`. -/
def Statement (i : Instr) : Prop :=
  (∃ b, encode i = [b] ∧ decodeBase b = i) ∨ (∃ b, encode i = [0xCB, b] ∧ decodeExt b = i)

theorem nop : Statement .nop := Or.inl ⟨_, rfl, rfl⟩
theorem ld_BC_n16 : Statement .ld_BC_n16 := Or.inl ⟨_, rfl, rfl⟩
theorem ld_atBC_A : Statement .ld_atBC_A := Or.inl ⟨_, rfl, rfl⟩
theorem inc_BC : Statement .inc_BC := Or.inl ⟨_, rfl, rfl⟩
theorem inc_B : Statement .inc_B := Or.inl ⟨_, rfl, rfl⟩
theorem dec_B : Statement .dec_B := Or.inl ⟨_, rfl, rfl⟩
theorem ld_B_n8 : Statement .ld_B_n8 := Or.inl ⟨_, rfl, rfl⟩
theorem rlca : Statement .rlca := Or.inl ⟨_, rfl, rfl⟩
theorem ld_atN16_SP : Statement .ld_atN16_SP := Or.inl ⟨_, rfl, rfl⟩
theorem add_HL_BC : Statement .add_HL_BC := Or.inl ⟨_, rfl, rfl⟩
theorem ld_A_atBC : Statement .ld_A_atBC := Or.inl ⟨_, rfl, rfl⟩
theorem dec_BC : Statement .dec_BC := Or.inl ⟨_, rfl, rfl⟩
theorem inc_C : Statement .inc_C := Or.inl ⟨_, rfl, rfl⟩
theorem dec_C : Statement .dec_C := Or.inl ⟨_, rfl, rfl⟩
theorem ld_C_n8 : Statement .ld_C_n8 := Or.inl ⟨_, rfl, rfl⟩
theorem rrca : Statement .rrca := Or.inl ⟨_, rfl, rfl⟩
theorem stop : Statement .stop := Or.inl ⟨_, rfl, rfl⟩
theorem ld_DE_n16 : Statement .ld_DE_n16 := Or.inl ⟨_, rfl, rfl⟩
theorem ld_atDE_A : Statement .ld_atDE_A := Or.inl ⟨_, rfl, rfl⟩
theorem inc_DE : Statement .inc_DE := Or.inl ⟨_, rfl, rfl⟩
theorem inc_D : Statement .inc_D := Or.inl ⟨_, rfl, rfl⟩
theorem dec_D : Statement .dec_D := Or.inl ⟨_, rfl, rfl⟩
theorem ld_D_n8 : Statement .ld_D_n8 := Or.inl ⟨_, rfl, rfl⟩
theorem rla : Statement .rla := Or.inl ⟨_, rfl, rfl⟩
theorem jr_e8 : Statement .jr_e8 := Or.inl ⟨_, rfl, rfl⟩
theorem add_HL_DE : Statement .add_HL_DE := Or.inl ⟨_, rfl, rfl⟩
theorem ld_A_atDE : Statement .ld_A_atDE := Or.inl ⟨_, rfl, rfl⟩
theorem dec_DE : Statement .dec_DE := Or.inl ⟨_, rfl, rfl⟩
theorem inc_E : Statement .inc_E := Or.inl ⟨_, rfl, rfl⟩
theorem dec_E : Statement .dec_E := Or.inl ⟨_, rfl, rfl⟩
theorem ld_E_n8 : Statement .ld_E_n8 := Or.inl ⟨_, rfl, rfl⟩
theorem rra : Statement .rra := Or.inl ⟨_, rfl, rfl⟩
theorem jr_NZ_e8 : Statement .jr_NZ_e8 := Or.inl ⟨_, rfl, rfl⟩
theorem ld_HL_n16 : Statement .ld_HL_n16 := Or.inl ⟨_, rfl, rfl⟩
theorem ld_atHLinc_A : Statement .ld_atHLinc_A := Or.inl ⟨_, rfl, rfl⟩
theorem inc_HL : Statement .inc_HL := Or.inl ⟨_, rfl, rfl⟩
theorem inc_H : Statement .inc_H := Or.inl ⟨_, rfl, rfl⟩
theorem dec_H : Statement .dec_H := Or.inl ⟨_, rfl, rfl⟩
theorem ld_H_n8 : Statement .ld_H_n8 := Or.inl ⟨_, rfl, rfl⟩
theorem daa : Statement .daa := Or.inl ⟨_, rfl, rfl⟩
theorem jr_Z_e8 : Statement .jr_Z_e8 := Or.inl ⟨_, rfl, rfl⟩
theorem add_HL_HL : Statement .add_HL_HL := Or.inl ⟨_, rfl, rfl⟩
theorem ld_A_atHLinc : Statement .ld_A_atHLinc := Or.inl ⟨_, rfl, rfl⟩
theorem dec_HL : Statement .dec_HL := Or.inl ⟨_, rfl, rfl⟩
theorem inc_L : Statement .inc_L := Or.inl ⟨_, rfl, rfl⟩
theorem dec_L : Statement .dec_L := Or.inl ⟨_, rfl, rfl⟩
theorem ld_L_n8 : Statement .ld_L_n8 := Or.inl ⟨_, rfl, rfl⟩
theorem cpl : Statement .cpl := Or.inl ⟨_, rfl, rfl⟩
theorem jr_NC_e8 : Statement .jr_NC_e8 := Or.inl ⟨_, rfl, rfl⟩
theorem ld_SP_n16 : Statement .ld_SP_n16 := Or.inl ⟨_, rfl, rfl⟩
theorem ld_atHLdec_A : Statement .ld_atHLdec_A := Or.inl ⟨_, rfl, rfl⟩
theorem inc_SP : Statement .inc_SP := Or.inl ⟨_, rfl, rfl⟩
theorem inc_atHL : Statement .inc_atHL := Or.inl ⟨_, rfl, rfl⟩
theorem dec_atHL : Statement .dec_atHL := Or.inl ⟨_, rfl, rfl⟩
theorem ld_atHL_n8 : Statement .ld_atHL_n8 := Or.inl ⟨_, rfl, rfl⟩
theorem scf : Statement .scf := Or.inl ⟨_, rfl, rfl⟩
theorem jr_C_e8 : Statement .jr_C_e8 := Or.inl ⟨_, rfl, rfl⟩
theorem add_HL_SP : Statement .add_HL_SP := Or.inl ⟨_, rfl, rfl⟩
theorem ld_A_atHLdec : Statement .ld_A_atHLdec := Or.inl ⟨_, rfl, rfl⟩
theorem dec_SP : Statement .dec_SP := Or.inl ⟨_, rfl, rfl⟩
theorem inc_A : Statement .inc_A := Or.inl ⟨_, rfl, rfl⟩
theorem dec_A : Statement .dec_A := Or.inl ⟨_, rfl, rfl⟩
theorem ld_A_n8 : Statement .ld_A_n8 := Or.inl ⟨_, rfl, rfl⟩
theorem ccf : Statement .ccf := Or.inl ⟨_, rfl, rfl⟩
theorem ld_B_B : Statement .ld_B_B := Or.inl ⟨_, rfl, rfl⟩
theorem ld_B_C : Statement .ld_B_C := Or.inl ⟨_, rfl, rfl⟩
theorem ld_B_D : Statement .ld_B_D := Or.inl ⟨_, rfl, rfl⟩
theorem ld_B_E : Statement .ld_B_E := Or.inl ⟨_, rfl, rfl⟩
theorem ld_B_H : Statement .ld_B_H := Or.inl ⟨_, rfl, rfl⟩
theorem ld_B_L : Statement .ld_B_L := Or.inl ⟨_, rfl, rfl⟩
theorem ld_B_atHL : Statement .ld_B_atHL := Or.inl ⟨_, rfl, rfl⟩
theorem ld_B_A : Statement .ld_B_A := Or.inl ⟨_, rfl, rfl⟩
theorem ld_C_B : Statement .ld_C_B := Or.inl ⟨_, rfl, rfl⟩
theorem ld_C_C : Statement .ld_C_C := Or.inl ⟨_, rfl, rfl⟩
theorem ld_C_D : Statement .ld_C_D := Or.inl ⟨_, rfl, rfl⟩
theorem ld_C_E : Statement .ld_C_E := Or.inl ⟨_, rfl, rfl⟩
theorem ld_C_H : Statement .ld_C_H := Or.inl ⟨_, rfl, rfl⟩
theorem ld_C_L : Statement .ld_C_L := Or.inl ⟨_, rfl, rfl⟩
theorem ld_C_atHL : Statement .ld_C_atHL := Or.inl ⟨_, rfl, rfl⟩
theorem ld_C_A : Statement .ld_C_A := Or.inl ⟨_, rfl, rfl⟩
theorem ld_D_B : Statement .ld_D_B := Or.inl ⟨_, rfl, rfl⟩
theorem ld_D_C : Statement .ld_D_C := Or.inl ⟨_, rfl, rfl⟩
theorem ld_D_D : Statement .ld_D_D := Or.inl ⟨_, rfl, rfl⟩
theorem ld_D_E : Statement .ld_D_E := Or.inl ⟨_, rfl, rfl⟩
theorem ld_D_H : Statement .ld_D_H := Or.inl ⟨_, rfl, rfl⟩
theorem ld_D_L : Statement .ld_D_L := Or.inl ⟨_, rfl, rfl⟩
theorem ld_D_atHL : Statement .ld_D_atHL := Or.inl ⟨_, rfl, rfl⟩
theorem ld_D_A : Statement .ld_D_A := Or.inl ⟨_, rfl, rfl⟩
theorem ld_E_B : Statement .ld_E_B := Or.inl ⟨_, rfl, rfl⟩
theorem ld_E_C : Statement .ld_E_C := Or.inl ⟨_, rfl, rfl⟩
theorem ld_E_D : Statement .ld_E_D := Or.inl ⟨_, rfl, rfl⟩
theorem ld_E_E : Statement .ld_E_E := Or.inl ⟨_, rfl, rfl⟩
theorem ld_E_H : Statement .ld_E_H := Or.inl ⟨_, rfl, rfl⟩
theorem ld_E_L : Statement .ld_E_L := Or.inl ⟨_, rfl, rfl⟩
theorem ld_E_atHL : Statement .ld_E_atHL := Or.inl ⟨_, rfl, rfl⟩
theorem ld_E_A : Statement .ld_E_A := Or.inl ⟨_, rfl, rfl⟩
theorem ld_H_B : Statement .ld_H_B := Or.inl ⟨_, rfl, rfl⟩
theorem ld_H_C : Statement .ld_H_C := Or.inl ⟨_, rfl, rfl⟩
theorem ld_H_D : Statement .ld_H_D := Or.inl ⟨_, rfl, rfl⟩
theorem ld_H_E : Statement .ld_H_E := Or.inl ⟨_, rfl, rfl⟩
theorem ld_H_H : Statement .ld_H_H := Or.inl ⟨_, rfl, rfl⟩
theorem ld_H_L : Statement .ld_H_L := Or.inl ⟨_, rfl, rfl⟩
theorem ld_H_atHL : Statement .ld_H_atHL := Or.inl ⟨_, rfl, rfl⟩
theorem ld_H_A : Statement .ld_H_A := Or.inl ⟨_, rfl, rfl⟩
theorem ld_L_B : Statement .ld_L_B := Or.inl ⟨_, rfl, rfl⟩
theorem ld_L_C : Statement .ld_L_C := Or.inl ⟨_, rfl, rfl⟩
theorem ld_L_D : Statement .ld_L_D := Or.inl ⟨_, rfl, rfl⟩
theorem ld_L_E : Statement .ld_L_E := Or.inl ⟨_, rfl, rfl⟩
theorem ld_L_H : Statement .ld_L_H := Or.inl ⟨_, rfl, rfl⟩
theorem ld_L_L : Statement .ld_L_L := Or.inl ⟨_, rfl, rfl⟩
theorem ld_L_atHL : Statement .ld_L_atHL := Or.inl ⟨_, rfl, rfl⟩
theorem ld_L_A : Statement .ld_L_A := Or.inl ⟨_, rfl, rfl⟩
theorem ld_atHL_B : Statement .ld_atHL_B := Or.inl ⟨_, rfl, rfl⟩
theorem ld_atHL_C : Statement .ld_atHL_C := Or.inl ⟨_, rfl, rfl⟩
theorem ld_atHL_D : Statement .ld_atHL_D := Or.inl ⟨_, rfl, rfl⟩
theorem ld_atHL_E : Statement .ld_atHL_E := Or.inl ⟨_, rfl, rfl⟩
theorem ld_atHL_H : Statement .ld_atHL_H := Or.inl ⟨_, rfl, rfl⟩
theorem ld_atHL_L : Statement .ld_atHL_L := Or.inl ⟨_, rfl, rfl⟩
theorem halt : Statement .halt := Or.inl ⟨_, rfl, rfl⟩
theorem ld_atHL_A : Statement .ld_atHL_A := Or.inl ⟨_, rfl, rfl⟩
theorem ld_A_B : Statement .ld_A_B := Or.inl ⟨_, rfl, rfl⟩
theorem ld_A_C : Statement .ld_A_C := Or.inl ⟨_, rfl, rfl⟩
theorem ld_A_D : Statement .ld_A_D := Or.inl ⟨_, rfl, rfl⟩
theorem ld_A_E : Statement .ld_A_E := Or.inl ⟨_, rfl, rfl⟩
theorem ld_A_H : Statement .ld_A_H := Or.inl ⟨_, rfl, rfl⟩
theorem ld_A_L : Statement .ld_A_L := Or.inl ⟨_, rfl, rfl⟩
theorem ld_A_atHL : Statement .ld_A_atHL := Or.inl ⟨_, rfl, rfl⟩
theorem ld_A_A : Statement .ld_A_A := Or.inl ⟨_, rfl, rfl⟩
theorem add_A_B : Statement .add_A_B := Or.inl ⟨_, rfl, rfl⟩
theorem add_A_C : Statement .add_A_C := Or.inl ⟨_, rfl, rfl⟩
theorem add_A_D : Statement .add_A_D := Or.inl ⟨_, rfl, rfl⟩
theorem add_A_E : Statement .add_A_E := Or.inl ⟨_, rfl, rfl⟩
theorem add_A_H : Statement .add_A_H := Or.inl ⟨_, rfl, rfl⟩
theorem add_A_L : Statement .add_A_L := Or.inl ⟨_, rfl, rfl⟩
theorem add_A_atHL : Statement .add_A_atHL := Or.inl ⟨_, rfl, rfl⟩
theorem add_A_A : Statement .add_A_A := Or.inl ⟨_, rfl, rfl⟩
theorem adc_A_B : Statement .adc_A_B := Or.inl ⟨_, rfl, rfl⟩
theorem adc_A_C : Statement .adc_A_C := Or.inl ⟨_, rfl, rfl⟩
theorem adc_A_D : Statement .adc_A_D := Or.inl ⟨_, rfl, rfl⟩
theorem adc_A_E : Statement .adc_A_E := Or.inl ⟨_, rfl, rfl⟩
theorem adc_A_H : Statement .adc_A_H := Or.inl ⟨_, rfl, rfl⟩
theorem adc_A_L : Statement .adc_A_L := Or.inl ⟨_, rfl, rfl⟩
theorem adc_A_atHL : Statement .adc_A_atHL := Or.inl ⟨_, rfl, rfl⟩
theorem adc_A_A : Statement .adc_A_A := Or.inl ⟨_, rfl, rfl⟩
theorem sub_A_B : Statement .sub_A_B := Or.inl ⟨_, rfl, rfl⟩
theorem sub_A_C : Statement .sub_A_C := Or.inl ⟨_, rfl, rfl⟩
theorem sub_A_D : Statement .sub_A_D := Or.inl ⟨_, rfl, rfl⟩
theorem sub_A_E : Statement .sub_A_E := Or.inl ⟨_, rfl, rfl⟩
theorem sub_A_H : Statement .sub_A_H := Or.inl ⟨_, rfl, rfl⟩
theorem sub_A_L : Statement .sub_A_L := Or.inl ⟨_, rfl, rfl⟩
theorem sub_A_atHL : Statement .sub_A_atHL := Or.inl ⟨_, rfl, rfl⟩
theorem sub_A_A : Statement .sub_A_A := Or.inl ⟨_, rfl, rfl⟩
theorem sbc_A_B : Statement .sbc_A_B := Or.inl ⟨_, rfl, rfl⟩
theorem sbc_A_C : Statement .sbc_A_C := Or.inl ⟨_, rfl, rfl⟩
theorem sbc_A_D : Statement .sbc_A_D := Or.inl ⟨_, rfl, rfl⟩
theorem sbc_A_E : Statement .sbc_A_E := Or.inl ⟨_, rfl, rfl⟩
theorem sbc_A_H : Statement .sbc_A_H := Or.inl ⟨_, rfl, rfl⟩
theorem sbc_A_L : Statement .sbc_A_L := Or.inl ⟨_, rfl, rfl⟩
theorem sbc_A_atHL : Statement .sbc_A_atHL := Or.inl ⟨_, rfl, rfl⟩
theorem sbc_A_A : Statement .sbc_A_A := Or.inl ⟨_, rfl, rfl⟩
theorem and_A_B : Statement .and_A_B := Or.inl ⟨_, rfl, rfl⟩
theorem and_A_C : Statement .and_A_C := Or.inl ⟨_, rfl, rfl⟩
theorem and_A_D : Statement .and_A_D := Or.inl ⟨_, rfl, rfl⟩
theorem and_A_E : Statement .and_A_E := Or.inl ⟨_, rfl, rfl⟩
theorem and_A_H : Statement .and_A_H := Or.inl ⟨_, rfl, rfl⟩
theorem and_A_L : Statement .and_A_L := Or.inl ⟨_, rfl, rfl⟩
theorem and_A_atHL : Statement .and_A_atHL := Or.inl ⟨_, rfl, rfl⟩
theorem and_A_A : Statement .and_A_A := Or.inl ⟨_, rfl, rfl⟩
theorem xor_A_B : Statement .xor_A_B := Or.inl ⟨_, rfl, rfl⟩
theorem xor_A_C : Statement .xor_A_C := Or.inl ⟨_, rfl, rfl⟩
theorem xor_A_D : Statement .xor_A_D := Or.inl ⟨_, rfl, rfl⟩
theorem xor_A_E : Statement .xor_A_E := Or.inl ⟨_, rfl, rfl⟩
theorem xor_A_H : Statement .xor_A_H := Or.inl ⟨_, rfl, rfl⟩
theorem xor_A_L : Statement .xor_A_L := Or.inl ⟨_, rfl, rfl⟩
theorem xor_A_atHL : Statement .xor_A_atHL := Or.inl ⟨_, rfl, rfl⟩
theorem xor_A_A : Statement .xor_A_A := Or.inl ⟨_, rfl, rfl⟩
theorem or_A_B : Statement .or_A_B := Or.inl ⟨_, rfl, rfl⟩
theorem or_A_C : Statement .or_A_C := Or.inl ⟨_, rfl, rfl⟩
theorem or_A_D : Statement .or_A_D := Or.inl ⟨_, rfl, rfl⟩
theorem or_A_E : Statement .or_A_E := Or.inl ⟨_, rfl, rfl⟩
theorem or_A_H : Statement .or_A_H := Or.inl ⟨_, rfl, rfl⟩
theorem or_A_L : Statement .or_A_L := Or.inl ⟨_, rfl, rfl⟩
theorem or_A_atHL : Statement .or_A_atHL := Or.inl ⟨_, rfl, rfl⟩
theorem or_A_A : Statement .or_A_A := Or.inl ⟨_, rfl, rfl⟩
theorem cp_A_B : Statement .cp_A_B := Or.inl ⟨_, rfl, rfl⟩
theorem cp_A_C : Statement .cp_A_C := Or.inl ⟨_, rfl, rfl⟩
theorem cp_A_D : Statement .cp_A_D := Or.inl ⟨_, rfl, rfl⟩
theorem cp_A_E : Statement .cp_A_E := Or.inl ⟨_, rfl, rfl⟩
theorem cp_A_H : Statement .cp_A_H := Or.inl ⟨_, rfl, rfl⟩
theorem cp_A_L : Statement .cp_A_L := Or.inl ⟨_, rfl, rfl⟩
theorem cp_A_atHL : Statement .cp_A_atHL := Or.inl ⟨_, rfl, rfl⟩
theorem cp_A_A : Statement .cp_A_A := Or.inl ⟨_, rfl, rfl⟩
theorem ret_NZ : Statement .ret_NZ := Or.inl ⟨_, rfl, rfl⟩
theorem pop_BC : Statement .pop_BC := Or.inl ⟨_, rfl, rfl⟩
theorem jp_NZ_n16 : Statement .jp_NZ_n16 := Or.inl ⟨_, rfl, rfl⟩
theorem jp_n16 : Statement .jp_n16 := Or.inl ⟨_, rfl, rfl⟩
theorem call_NZ_n16 : Statement .call_NZ_n16 := Or.inl ⟨_, rfl, rfl⟩
theorem push_BC : Statement .push_BC := Or.inl ⟨_, rfl, rfl⟩
theorem add_A_n8 : Statement .add_A_n8 := Or.inl ⟨_, rfl, rfl⟩
theorem rst_0x00 : Statement .rst_0x00 := Or.inl ⟨_, rfl, rfl⟩
theorem ret_Z : Statement .ret_Z := Or.inl ⟨_, rfl, rfl⟩
theorem ret : Statement .ret := Or.inl ⟨_, rfl, rfl⟩
theorem jp_Z_n16 : Statement .jp_Z_n16 := Or.inl ⟨_, rfl, rfl⟩
theorem prefix_CB : Statement .prefix_CB := Or.inl ⟨_, rfl, rfl⟩
theorem call_Z_n16 : Statement .call_Z_n16 := Or.inl ⟨_, rfl, rfl⟩
theorem call_n16 : Statement .call_n16 := Or.inl ⟨_, rfl, rfl⟩
theorem adc_A_n8 : Statement .adc_A_n8 := Or.inl ⟨_, rfl, rfl⟩
theorem rst_0x08 : Statement .rst_0x08 := Or.inl ⟨_, rfl, rfl⟩
theorem ret_NC : Statement .ret_NC := Or.inl ⟨_, rfl, rfl⟩
theorem pop_DE : Statement .pop_DE := Or.inl ⟨_, rfl, rfl⟩
theorem jp_NC_n16 : Statement .jp_NC_n16 := Or.inl ⟨_, rfl, rfl⟩
theorem illegal_0xD3 : Statement .illegal_0xD3 := Or.inl ⟨_, rfl, rfl⟩
theorem call_NC_n16 : Statement .call_NC_n16 := Or.inl ⟨_, rfl, rfl⟩
theorem push_DE : Statement .push_DE := Or.inl ⟨_, rfl, rfl⟩
theorem sub_A_n8 : Statement .sub_A_n8 := Or.inl ⟨_, rfl, rfl⟩
theorem rst_0x10 : Statement .rst_0x10 := Or.inl ⟨_, rfl, rfl⟩
theorem ret_C : Statement .ret_C := Or.inl ⟨_, rfl, rfl⟩
theorem reti : Statement .reti := Or.inl ⟨_, rfl, rfl⟩
theorem jp_C_n16 : Statement .jp_C_n16 := Or.inl ⟨_, rfl, rfl⟩
theorem illegal_0xDB : Statement .illegal_0xDB := Or.inl ⟨_, rfl, rfl⟩
theorem call_C_n16 : Statement .call_C_n16 := Or.inl ⟨_, rfl, rfl⟩
theorem illegal_0xDD : Statement .illegal_0xDD := Or.inl ⟨_, rfl, rfl⟩
theorem sbc_A_n8 : Statement .sbc_A_n8 := Or.inl ⟨_, rfl, rfl⟩
theorem rst_0x18 : Statement .rst_0x18 := Or.inl ⟨_, rfl, rfl⟩
theorem ldh_atN8_A : Statement .ldh_atN8_A := Or.inl ⟨_, rfl, rfl⟩
theorem pop_HL : Statement .pop_HL := Or.inl ⟨_, rfl, rfl⟩
theorem ldh_atC_A : Statement .ldh_atC_A := Or.inl ⟨_, rfl, rfl⟩
theorem illegal_0xE3 : Statement .illegal_0xE3 := Or.inl ⟨_, rfl, rfl⟩
theorem illegal_0xE4 : Statement .illegal_0xE4 := Or.inl ⟨_, rfl, rfl⟩
theorem push_HL : Statement .push_HL := Or.inl ⟨_, rfl, rfl⟩
theorem and_A_n8 : Statement .and_A_n8 := Or.inl ⟨_, rfl, rfl⟩
theorem rst_0x20 : Statement .rst_0x20 := Or.inl ⟨_, rfl, rfl⟩
theorem add_SP_e8 : Statement .add_SP_e8 := Or.inl ⟨_, rfl, rfl⟩
theorem jp_HL : Statement .jp_HL := Or.inl ⟨_, rfl, rfl⟩
theorem ld_atN16_A : Statement .ld_atN16_A := Or.inl ⟨_, rfl, rfl⟩
theorem illegal_0xEB : Statement .illegal_0xEB := Or.inl ⟨_, rfl, rfl⟩
theorem illegal_0xEC : Statement .illegal_0xEC := Or.inl ⟨_, rfl, rfl⟩
theorem illegal_0xED : Statement .illegal_0xED := Or.inl ⟨_, rfl, rfl⟩
theorem xor_A_n8 : Statement .xor_A_n8 := Or.inl ⟨_, rfl, rfl⟩
theorem rst_0x28 : Statement .rst_0x28 := Or.inl ⟨_, rfl, rfl⟩
theorem ldh_A_atN8 : Statement .ldh_A_atN8 := Or.inl ⟨_, rfl, rfl⟩
theorem pop_AF : Statement .pop_AF := Or.inl ⟨_, rfl, rfl⟩
theorem ldh_A_atC : Statement .ldh_A_atC := Or.inl ⟨_, rfl, rfl⟩
theorem di : Statement .di := Or.inl ⟨_, rfl, rfl⟩
theorem illegal_0xF4 : Statement .illegal_0xF4 := Or.inl ⟨_, rfl, rfl⟩
theorem push_AF : Statement .push_AF := Or.inl ⟨_, rfl, rfl⟩
theorem or_A_n8 : Statement .or_A_n8 := Or.inl ⟨_, rfl, rfl⟩
theorem rst_0x30 : Statement .rst_0x30 := Or.inl ⟨_, rfl, rfl⟩
theorem ld_HL_SPe8 : Statement .ld_HL_SPe8 := Or.inl ⟨_, rfl, rfl⟩
theorem ld_SP_HL : Statement .ld_SP_HL := Or.inl ⟨_, rfl, rfl⟩
theorem ld_A_atN16 : Statement .ld_A_atN16 := Or.inl ⟨_, rfl, rfl⟩
theorem ei : Statement .ei := Or.inl ⟨_, rfl, rfl⟩
theorem illegal_0xFC : Statement .illegal_0xFC := Or.inl ⟨_, rfl, rfl⟩
theorem illegal_0xFD : Statement .illegal_0xFD := Or.inl ⟨_, rfl, rfl⟩
theorem cp_A_n8 : Statement .cp_A_n8 := Or.inl ⟨_, rfl, rfl⟩
theorem rst_0x38 : Statement .rst_0x38 := Or.inl ⟨_, rfl, rfl⟩
theorem rlc_B : Statement .rlc_B := Or.inr ⟨_, rfl, rfl⟩
theorem rlc_C : Statement .rlc_C := Or.inr ⟨_, rfl, rfl⟩
theorem rlc_D : Statement .rlc_D := Or.inr ⟨_, rfl, rfl⟩
theorem rlc_E : Statement .rlc_E := Or.inr ⟨_, rfl, rfl⟩
theorem rlc_H : Statement .rlc_H := Or.inr ⟨_, rfl, rfl⟩
theorem rlc_L : Statement .rlc_L := Or.inr ⟨_, rfl, rfl⟩
theorem rlc_atHL : Statement .rlc_atHL := Or.inr ⟨_, rfl, rfl⟩
theorem rlc_A : Statement .rlc_A := Or.inr ⟨_, rfl, rfl⟩
theorem rrc_B : Statement .rrc_B := Or.inr ⟨_, rfl, rfl⟩
theorem rrc_C : Statement .rrc_C := Or.inr ⟨_, rfl, rfl⟩
theorem rrc_D : Statement .rrc_D := Or.inr ⟨_, rfl, rfl⟩
theorem rrc_E : Statement .rrc_E := Or.inr ⟨_, rfl, rfl⟩
theorem rrc_H : Statement .rrc_H := Or.inr ⟨_, rfl, rfl⟩
theorem rrc_L : Statement .rrc_L := Or.inr ⟨_, rfl, rfl⟩
theorem rrc_atHL : Statement .rrc_atHL := Or.inr ⟨_, rfl, rfl⟩
theorem rrc_A : Statement .rrc_A := Or.inr ⟨_, rfl, rfl⟩
theorem rl_B : Statement .rl_B := Or.inr ⟨_, rfl, rfl⟩
theorem rl_C : Statement .rl_C := Or.inr ⟨_, rfl, rfl⟩
theorem rl_D : Statement .rl_D := Or.inr ⟨_, rfl, rfl⟩
theorem rl_E : Statement .rl_E := Or.inr ⟨_, rfl, rfl⟩
theorem rl_H : Statement .rl_H := Or.inr ⟨_, rfl, rfl⟩
theorem rl_L : Statement .rl_L := Or.inr ⟨_, rfl, rfl⟩
theorem rl_atHL : Statement .rl_atHL := Or.inr ⟨_, rfl, rfl⟩
theorem rl_A : Statement .rl_A := Or.inr ⟨_, rfl, rfl⟩
theorem rr_B : Statement .rr_B := Or.inr ⟨_, rfl, rfl⟩
theorem rr_C : Statement .rr_C := Or.inr ⟨_, rfl, rfl⟩
theorem rr_D : Statement .rr_D := Or.inr ⟨_, rfl, rfl⟩
theorem rr_E : Statement .rr_E := Or.inr ⟨_, rfl, rfl⟩
theorem rr_H : Statement .rr_H := Or.inr ⟨_, rfl, rfl⟩
theorem rr_L : Statement .rr_L := Or.inr ⟨_, rfl, rfl⟩
theorem rr_atHL : Statement .rr_atHL := Or.inr ⟨_, rfl, rfl⟩
theorem rr_A : Statement .rr_A := Or.inr ⟨_, rfl, rfl⟩
theorem sla_B : Statement .sla_B := Or.inr ⟨_, rfl, rfl⟩
theorem sla_C : Statement .sla_C := Or.inr ⟨_, rfl, rfl⟩
theorem sla_D : Statement .sla_D := Or.inr ⟨_, rfl, rfl⟩
theorem sla_E : Statement .sla_E := Or.inr ⟨_, rfl, rfl⟩
theorem sla_H : Statement .sla_H := Or.inr ⟨_, rfl, rfl⟩
theorem sla_L : Statement .sla_L := Or.inr ⟨_, rfl, rfl⟩
theorem sla_atHL : Statement .sla_atHL := Or.inr ⟨_, rfl, rfl⟩
theorem sla_A : Statement .sla_A := Or.inr ⟨_, rfl, rfl⟩
theorem sra_B : Statement .sra_B := Or.inr ⟨_, rfl, rfl⟩
theorem sra_C : Statement .sra_C := Or.inr ⟨_, rfl, rfl⟩
theorem sra_D : Statement .sra_D := Or.inr ⟨_, rfl, rfl⟩
theorem sra_E : Statement .sra_E := Or.inr ⟨_, rfl, rfl⟩
theorem sra_H : Statement .sra_H := Or.inr ⟨_, rfl, rfl⟩
theorem sra_L : Statement .sra_L := Or.inr ⟨_, rfl, rfl⟩
theorem sra_atHL : Statement .sra_atHL := Or.inr ⟨_, rfl, rfl⟩
theorem sra_A : Statement .sra_A := Or.inr ⟨_, rfl, rfl⟩
theorem swap_B : Statement .swap_B := Or.inr ⟨_, rfl, rfl⟩
theorem swap_C : Statement .swap_C := Or.inr ⟨_, rfl, rfl⟩
theorem swap_D : Statement .swap_D := Or.inr ⟨_, rfl, rfl⟩
theorem swap_E : Statement .swap_E := Or.inr ⟨_, rfl, rfl⟩
theorem swap_H : Statement .swap_H := Or.inr ⟨_, rfl, rfl⟩
theorem swap_L : Statement .swap_L := Or.inr ⟨_, rfl, rfl⟩
theorem swap_atHL : Statement .swap_atHL := Or.inr ⟨_, rfl, rfl⟩
theorem swap_A : Statement .swap_A := Or.inr ⟨_, rfl, rfl⟩
theorem srl_B : Statement .srl_B := Or.inr ⟨_, rfl, rfl⟩
theorem srl_C : Statement .srl_C := Or.inr ⟨_, rfl, rfl⟩
theorem srl_D : Statement .srl_D := Or.inr ⟨_, rfl, rfl⟩
theorem srl_E : Statement .srl_E := Or.inr ⟨_, rfl, rfl⟩
theorem srl_H : Statement .srl_H := Or.inr ⟨_, rfl, rfl⟩
theorem srl_L : Statement .srl_L := Or.inr ⟨_, rfl, rfl⟩
theorem srl_atHL : Statement .srl_atHL := Or.inr ⟨_, rfl, rfl⟩
theorem srl_A : Statement .srl_A := Or.inr ⟨_, rfl, rfl⟩
theorem bit_0_B : Statement .bit_0_B := Or.inr ⟨_, rfl, rfl⟩
theorem bit_0_C : Statement .bit_0_C := Or.inr ⟨_, rfl, rfl⟩
theorem bit_0_D : Statement .bit_0_D := Or.inr ⟨_, rfl, rfl⟩
theorem bit_0_E : Statement .bit_0_E := Or.inr ⟨_, rfl, rfl⟩
theorem bit_0_H : Statement .bit_0_H := Or.inr ⟨_, rfl, rfl⟩
theorem bit_0_L : Statement .bit_0_L := Or.inr ⟨_, rfl, rfl⟩
theorem bit_0_atHL : Statement .bit_0_atHL := Or.inr ⟨_, rfl, rfl⟩
theorem bit_0_A : Statement .bit_0_A := Or.inr ⟨_, rfl, rfl⟩
theorem bit_1_B : Statement .bit_1_B := Or.inr ⟨_, rfl, rfl⟩
theorem bit_1_C : Statement .bit_1_C := Or.inr ⟨_, rfl, rfl⟩
theorem bit_1_D : Statement .bit_1_D := Or.inr ⟨_, rfl, rfl⟩
theorem bit_1_E : Statement .bit_1_E := Or.inr ⟨_, rfl, rfl⟩
theorem bit_1_H : Statement .bit_1_H := Or.inr ⟨_, rfl, rfl⟩
theorem bit_1_L : Statement .bit_1_L := Or.inr ⟨_, rfl, rfl⟩
theorem bit_1_atHL : Statement .bit_1_atHL := Or.inr ⟨_, rfl, rfl⟩
theorem bit_1_A : Statement .bit_1_A := Or.inr ⟨_, rfl, rfl⟩
theorem bit_2_B : Statement .bit_2_B := Or.inr ⟨_, rfl, rfl⟩
theorem bit_2_C : Statement .bit_2_C := Or.inr ⟨_, rfl, rfl⟩
theorem bit_2_D : Statement .bit_2_D := Or.inr ⟨_, rfl, rfl⟩
theorem bit_2_E : Statement .bit_2_E := Or.inr ⟨_, rfl, rfl⟩
theorem bit_2_H : Statement .bit_2_H := Or.inr ⟨_, rfl, rfl⟩
theorem bit_2_L : Statement .bit_2_L := Or.inr ⟨_, rfl, rfl⟩
theorem bit_2_atHL : Statement .bit_2_atHL := Or.inr ⟨_, rfl, rfl⟩
theorem bit_2_A : Statement .bit_2_A := Or.inr ⟨_, rfl, rfl⟩
theorem bit_3_B : Statement .bit_3_B := Or.inr ⟨_, rfl, rfl⟩
theorem bit_3_C : Statement .bit_3_C := Or.inr ⟨_, rfl, rfl⟩
theorem bit_3_D : Statement .bit_3_D := Or.inr ⟨_, rfl, rfl⟩
theorem bit_3_E : Statement .bit_3_E := Or.inr ⟨_, rfl, rfl⟩
theorem bit_3_H : Statement .bit_3_H := Or.inr ⟨_, rfl, rfl⟩
theorem bit_3_L : Statement .bit_3_L := Or.inr ⟨_, rfl, rfl⟩
theorem bit_3_atHL : Statement .bit_3_atHL := Or.inr ⟨_, rfl, rfl⟩
theorem bit_3_A : Statement .bit_3_A := Or.inr ⟨_, rfl, rfl⟩
theorem bit_4_B : Statement .bit_4_B := Or.inr ⟨_, rfl, rfl⟩
theorem bit_4_C : Statement .bit_4_C := Or.inr ⟨_, rfl, rfl⟩
theorem bit_4_D : Statement .bit_4_D := Or.inr ⟨_, rfl, rfl⟩
theorem bit_4_E : Statement .bit_4_E := Or.inr ⟨_, rfl, rfl⟩
theorem bit_4_H : Statement .bit_4_H := Or.inr ⟨_, rfl, rfl⟩
theorem bit_4_L : Statement .bit_4_L := Or.inr ⟨_, rfl, rfl⟩
theorem bit_4_atHL : Statement .bit_4_atHL := Or.inr ⟨_, rfl, rfl⟩
theorem bit_4_A : Statement .bit_4_A := Or.inr ⟨_, rfl, rfl⟩
theorem bit_5_B : Statement .bit_5_B := Or.inr ⟨_, rfl, rfl⟩
theorem bit_5_C : Statement .bit_5_C := Or.inr ⟨_, rfl, rfl⟩
theorem bit_5_D : Statement .bit_5_D := Or.inr ⟨_, rfl, rfl⟩
theorem bit_5_E : Statement .bit_5_E := Or.inr ⟨_, rfl, rfl⟩
theorem bit_5_H : Statement .bit_5_H := Or.inr ⟨_, rfl, rfl⟩
theorem bit_5_L : Statement .bit_5_L := Or.inr ⟨_, rfl, rfl⟩
theorem bit_5_atHL : Statement .bit_5_atHL := Or.inr ⟨_, rfl, rfl⟩
theorem bit_5_A : Statement .bit_5_A := Or.inr ⟨_, rfl, rfl⟩
theorem bit_6_B : Statement .bit_6_B := Or.inr ⟨_, rfl, rfl⟩
theorem bit_6_C : Statement .bit_6_C := Or.inr ⟨_, rfl, rfl⟩
theorem bit_6_D : Statement .bit_6_D := Or.inr ⟨_, rfl, rfl⟩
theorem bit_6_E : Statement .bit_6_E := Or.inr ⟨_, rfl, rfl⟩
theorem bit_6_H : Statement .bit_6_H := Or.inr ⟨_, rfl, rfl⟩
theorem bit_6_L : Statement .bit_6_L := Or.inr ⟨_, rfl, rfl⟩
theorem bit_6_atHL : Statement .bit_6_atHL := Or.inr ⟨_, rfl, rfl⟩
theorem bit_6_A : Statement .bit_6_A := Or.inr ⟨_, rfl, rfl⟩
theorem bit_7_B : Statement .bit_7_B := Or.inr ⟨_, rfl, rfl⟩
theorem bit_7_C : Statement .bit_7_C := Or.inr ⟨_, rfl, rfl⟩
theorem bit_7_D : Statement .bit_7_D := Or.inr ⟨_, rfl, rfl⟩
theorem bit_7_E : Statement .bit_7_E := Or.inr ⟨_, rfl, rfl⟩
theorem bit_7_H : Statement .bit_7_H := Or.inr ⟨_, rfl, rfl⟩
theorem bit_7_L : Statement .bit_7_L := Or.inr ⟨_, rfl, rfl⟩
theorem bit_7_atHL : Statement .bit_7_atHL := Or.inr ⟨_, rfl, rfl⟩
theorem bit_7_A : Statement .bit_7_A := Or.inr ⟨_, rfl, rfl⟩
theorem res_0_B : Statement .res_0_B := Or.inr ⟨_, rfl, rfl⟩
theorem res_0_C : Statement .res_0_C := Or.inr ⟨_, rfl, rfl⟩
theorem res_0_D : Statement .res_0_D := Or.inr ⟨_, rfl, rfl⟩
theorem res_0_E : Statement .res_0_E := Or.inr ⟨_, rfl, rfl⟩
theorem res_0_H : Statement .res_0_H := Or.inr ⟨_, rfl, rfl⟩
theorem res_0_L : Statement .res_0_L := Or.inr ⟨_, rfl, rfl⟩
theorem res_0_atHL : Statement .res_0_atHL := Or.inr ⟨_, rfl, rfl⟩
theorem res_0_A : Statement .res_0_A := Or.inr ⟨_, rfl, rfl⟩
theorem res_1_B : Statement .res_1_B := Or.inr ⟨_, rfl, rfl⟩
theorem res_1_C : Statement .res_1_C := Or.inr ⟨_, rfl, rfl⟩
theorem res_1_D : Statement .res_1_D := Or.inr ⟨_, rfl, rfl⟩
theorem res_1_E : Statement .res_1_E := Or.inr ⟨_, rfl, rfl⟩
theorem res_1_H : Statement .res_1_H := Or.inr ⟨_, rfl, rfl⟩
theorem res_1_L : Statement .res_1_L := Or.inr ⟨_, rfl, rfl⟩
theorem res_1_atHL : Statement .res_1_atHL := Or.inr ⟨_, rfl, rfl⟩
theorem res_1_A : Statement .res_1_A := Or.inr ⟨_, rfl, rfl⟩
theorem res_2_B : Statement .res_2_B := Or.inr ⟨_, rfl, rfl⟩
theorem res_2_C : Statement .res_2_C := Or.inr ⟨_, rfl, rfl⟩
theorem res_2_D : Statement .res_2_D := Or.inr ⟨_, rfl, rfl⟩
theorem res_2_E : Statement .res_2_E := Or.inr ⟨_, rfl, rfl⟩
theorem res_2_H : Statement .res_2_H := Or.inr ⟨_, rfl, rfl⟩
theorem res_2_L : Statement .res_2_L := Or.inr ⟨_, rfl, rfl⟩
theorem res_2_atHL : Statement .res_2_atHL := Or.inr ⟨_, rfl, rfl⟩
theorem res_2_A : Statement .res_2_A := Or.inr ⟨_, rfl, rfl⟩
theorem res_3_B : Statement .res_3_B := Or.inr ⟨_, rfl, rfl⟩
theorem res_3_C : Statement .res_3_C := Or.inr ⟨_, rfl, rfl⟩
theorem res_3_D : Statement .res_3_D := Or.inr ⟨_, rfl, rfl⟩
theorem res_3_E : Statement .res_3_E := Or.inr ⟨_, rfl, rfl⟩
theorem res_3_H : Statement .res_3_H := Or.inr ⟨_, rfl, rfl⟩
theorem res_3_L : Statement .res_3_L := Or.inr ⟨_, rfl, rfl⟩
theorem res_3_atHL : Statement .res_3_atHL := Or.inr ⟨_, rfl, rfl⟩
theorem res_3_A : Statement .res_3_A := Or.inr ⟨_, rfl, rfl⟩
theorem res_4_B : Statement .res_4_B := Or.inr ⟨_, rfl, rfl⟩
theorem res_4_C : Statement .res_4_C := Or.inr ⟨_, rfl, rfl⟩
theorem res_4_D : Statement .res_4_D := Or.inr ⟨_, rfl, rfl⟩
theorem res_4_E : Statement .res_4_E := Or.inr ⟨_, rfl, rfl⟩
theorem res_4_H : Statement .res_4_H := Or.inr ⟨_, rfl, rfl⟩
theorem res_4_L : Statement .res_4_L := Or.inr ⟨_, rfl, rfl⟩
theorem res_4_atHL : Statement .res_4_atHL := Or.inr ⟨_, rfl, rfl⟩
theorem res_4_A : Statement .res_4_A := Or.inr ⟨_, rfl, rfl⟩
theorem res_5_B : Statement .res_5_B := Or.inr ⟨_, rfl, rfl⟩
theorem res_5_C : Statement .res_5_C := Or.inr ⟨_, rfl, rfl⟩
theorem res_5_D : Statement .res_5_D := Or.inr ⟨_, rfl, rfl⟩
theorem res_5_E : Statement .res_5_E := Or.inr ⟨_, rfl, rfl⟩
theorem res_5_H : Statement .res_5_H := Or.inr ⟨_, rfl, rfl⟩
theorem res_5_L : Statement .res_5_L := Or.inr ⟨_, rfl, rfl⟩
theorem res_5_atHL : Statement .res_5_atHL := Or.inr ⟨_, rfl, rfl⟩
theorem res_5_A : Statement .res_5_A := Or.inr ⟨_, rfl, rfl⟩
theorem res_6_B : Statement .res_6_B := Or.inr ⟨_, rfl, rfl⟩
theorem res_6_C : Statement .res_6_C := Or.inr ⟨_, rfl, rfl⟩
theorem res_6_D : Statement .res_6_D := Or.inr ⟨_, rfl, rfl⟩
theorem res_6_E : Statement .res_6_E := Or.inr ⟨_, rfl, rfl⟩
theorem res_6_H : Statement .res_6_H := Or.inr ⟨_, rfl, rfl⟩
theorem res_6_L : Statement .res_6_L := Or.inr ⟨_, rfl, rfl⟩
theorem res_6_atHL : Statement .res_6_atHL := Or.inr ⟨_, rfl, rfl⟩
theorem res_6_A : Statement .res_6_A := Or.inr ⟨_, rfl, rfl⟩
theorem res_7_B : Statement .res_7_B := Or.inr ⟨_, rfl, rfl⟩
theorem res_7_C : Statement .res_7_C := Or.inr ⟨_, rfl, rfl⟩
theorem res_7_D : Statement .res_7_D := Or.inr ⟨_, rfl, rfl⟩
theorem res_7_E : Statement .res_7_E := Or.inr ⟨_, rfl, rfl⟩
theorem res_7_H : Statement .res_7_H := Or.inr ⟨_, rfl, rfl⟩
theorem res_7_L : Statement .res_7_L := Or.inr ⟨_, rfl, rfl⟩
theorem res_7_atHL : Statement .res_7_atHL := Or.inr ⟨_, rfl, rfl⟩
theorem res_7_A : Statement .res_7_A := Or.inr ⟨_, rfl, rfl⟩
theorem set_0_B : Statement .set_0_B := Or.inr ⟨_, rfl, rfl⟩
theorem set_0_C : Statement .set_0_C := Or.inr ⟨_, rfl, rfl⟩
theorem set_0_D : Statement .set_0_D := Or.inr ⟨_, rfl, rfl⟩
theorem set_0_E : Statement .set_0_E := Or.inr ⟨_, rfl, rfl⟩
theorem set_0_H : Statement .set_0_H := Or.inr ⟨_, rfl, rfl⟩
theorem set_0_L : Statement .set_0_L := Or.inr ⟨_, rfl, rfl⟩
theorem set_0_atHL : Statement .set_0_atHL := Or.inr ⟨_, rfl, rfl⟩
theorem set_0_A : Statement .set_0_A := Or.inr ⟨_, rfl, rfl⟩
theorem set_1_B : Statement .set_1_B := Or.inr ⟨_, rfl, rfl⟩
theorem set_1_C : Statement .set_1_C := Or.inr ⟨_, rfl, rfl⟩
theorem set_1_D : Statement .set_1_D := Or.inr ⟨_, rfl, rfl⟩
theorem set_1_E : Statement .set_1_E := Or.inr ⟨_, rfl, rfl⟩
theorem set_1_H : Statement .set_1_H := Or.inr ⟨_, rfl, rfl⟩
theorem set_1_L : Statement .set_1_L := Or.inr ⟨_, rfl, rfl⟩
theorem set_1_atHL : Statement .set_1_atHL := Or.inr ⟨_, rfl, rfl⟩
theorem set_1_A : Statement .set_1_A := Or.inr ⟨_, rfl, rfl⟩
theorem set_2_B : Statement .set_2_B := Or.inr ⟨_, rfl, rfl⟩
theorem set_2_C : Statement .set_2_C := Or.inr ⟨_, rfl, rfl⟩
theorem set_2_D : Statement .set_2_D := Or.inr ⟨_, rfl, rfl⟩
theorem set_2_E : Statement .set_2_E := Or.inr ⟨_, rfl, rfl⟩
theorem set_2_H : Statement .set_2_H := Or.inr ⟨_, rfl, rfl⟩
theorem set_2_L : Statement .set_2_L := Or.inr ⟨_, rfl, rfl⟩
theorem set_2_atHL : Statement .set_2_atHL := Or.inr ⟨_, rfl, rfl⟩
theorem set_2_A : Statement .set_2_A := Or.inr ⟨_, rfl, rfl⟩
theorem set_3_B : Statement .set_3_B := Or.inr ⟨_, rfl, rfl⟩
theorem set_3_C : Statement .set_3_C := Or.inr ⟨_, rfl, rfl⟩
theorem set_3_D : Statement .set_3_D := Or.inr ⟨_, rfl, rfl⟩
theorem set_3_E : Statement .set_3_E := Or.inr ⟨_, rfl, rfl⟩
theorem set_3_H : Statement .set_3_H := Or.inr ⟨_, rfl, rfl⟩
theorem set_3_L : Statement .set_3_L := Or.inr ⟨_, rfl, rfl⟩
theorem set_3_atHL : Statement .set_3_atHL := Or.inr ⟨_, rfl, rfl⟩
theorem set_3_A : Statement .set_3_A := Or.inr ⟨_, rfl, rfl⟩
theorem set_4_B : Statement .set_4_B := Or.inr ⟨_, rfl, rfl⟩
theorem set_4_C : Statement .set_4_C := Or.inr ⟨_, rfl, rfl⟩
theorem set_4_D : Statement .set_4_D := Or.inr ⟨_, rfl, rfl⟩
theorem set_4_E : Statement .set_4_E := Or.inr ⟨_, rfl, rfl⟩
theorem set_4_H : Statement .set_4_H := Or.inr ⟨_, rfl, rfl⟩
theorem set_4_L : Statement .set_4_L := Or.inr ⟨_, rfl, rfl⟩
theorem set_4_atHL : Statement .set_4_atHL := Or.inr ⟨_, rfl, rfl⟩
theorem set_4_A : Statement .set_4_A := Or.inr ⟨_, rfl, rfl⟩
theorem set_5_B : Statement .set_5_B := Or.inr ⟨_, rfl, rfl⟩
theorem set_5_C : Statement .set_5_C := Or.inr ⟨_, rfl, rfl⟩
theorem set_5_D : Statement .set_5_D := Or.inr ⟨_, rfl, rfl⟩
theorem set_5_E : Statement .set_5_E := Or.inr ⟨_, rfl, rfl⟩
theorem set_5_H : Statement .set_5_H := Or.inr ⟨_, rfl, rfl⟩
theorem set_5_L : Statement .set_5_L := Or.inr ⟨_, rfl, rfl⟩
theorem set_5_atHL : Statement .set_5_atHL := Or.inr ⟨_, rfl, rfl⟩
theorem set_5_A : Statement .set_5_A := Or.inr ⟨_, rfl, rfl⟩
theorem set_6_B : Statement .set_6_B := Or.inr ⟨_, rfl, rfl⟩
theorem set_6_C : Statement .set_6_C := Or.inr ⟨_, rfl, rfl⟩
theorem set_6_D : Statement .set_6_D := Or.inr ⟨_, rfl, rfl⟩
theorem set_6_E : Statement .set_6_E := Or.inr ⟨_, rfl, rfl⟩
theorem set_6_H : Statement .set_6_H := Or.inr ⟨_, rfl, rfl⟩
theorem set_6_L : Statement .set_6_L := Or.inr ⟨_, rfl, rfl⟩
theorem set_6_atHL : Statement .set_6_atHL := Or.inr ⟨_, rfl, rfl⟩
theorem set_6_A : Statement .set_6_A := Or.inr ⟨_, rfl, rfl⟩
theorem set_7_B : Statement .set_7_B := Or.inr ⟨_, rfl, rfl⟩
theorem set_7_C : Statement .set_7_C := Or.inr ⟨_, rfl, rfl⟩
theorem set_7_D : Statement .set_7_D := Or.inr ⟨_, rfl, rfl⟩
theorem set_7_E : Statement .set_7_E := Or.inr ⟨_, rfl, rfl⟩
theorem set_7_H : Statement .set_7_H := Or.inr ⟨_, rfl, rfl⟩
theorem set_7_L : Statement .set_7_L := Or.inr ⟨_, rfl, rfl⟩
theorem set_7_atHL : Statement .set_7_atHL := Or.inr ⟨_, rfl, rfl⟩
theorem set_7_A : Statement .set_7_A := Or.inr ⟨_, rfl, rfl⟩

end Sys2Proof.Laws.OpcodeBytes
end

