-- ==== Sys2Proof/Laws/Step.lean ====
section
/-! SUPPORT. The step of the machine, case by case (47_system.md R265), for every vector table. -/

namespace Sys2Proof.Machine

variable (vec : Fin 5 → Word) (s : State)

theorem pending_congr {s t : State} (h : t.mem = s.mem) : t.pending = s.pending := by
  simp only [State.pending, pendingIn, peek_of_mem_eq h]

/-- The opcode is fetched and decoded, and its instruction runs. -/
theorem executeOneWith_eq (run : Instr → State → Result) :
    executeOneWith run s = run (decodeBase (s.peek s.pc)) s.pastByte := rfl

theorem selected_zero : selected 0 = none := rfl

/-- The run states from which a step goes on to its boundary: a fetching core, a halted one that wakes, and the run
state that no step leaves (log 13). -/
def State.passes (s : State) : Prop := s.run = .fetching ∨ s.run = .prefixPending ∨ s.run = .halted ∧ s.pending ≠ 0

/-- What a step does is what its action says. -/
theorem stepWith_action :
    stepWith vec exec s =
      match State.action { s with bus := [] } s.pending with
      | .idle st n => .next (State.report { s with bus := [] } st n)
      | .fault b => .fault (.illegalOpcode b)
      | .dispatch i => .next (onFlat (dispatch vec i) { s with run := .fetching, bus := [] })
      | .execute => finishInstruction s.imePending
          (exec (decodeBase (s.peek s.pc)) { s with run := .fetching, pc := s.pc + 1, bus := [.read s.pc] }) := rfl

theorem action_of_passes (h : s.passes) : State.action { s with bus := [] } s.pending = s.boundaryAction s.pending := by
  rcases h with h | h | ⟨h, hp⟩
  · simp only [State.action, h]
    rfl
  · simp only [State.action, h]
    rfl
  · simp only [State.action, h, if_neg hp]
    rfl

theorem boundaryAction_dispatch {s : State} {p : Byte} {i : Fin 5} (hi : s.ime = true) (hs : selected p = some i) :
    s.boundaryAction p = .dispatch i := by
  simp only [State.boundaryAction, hi, if_true, hs]

theorem boundaryAction_execute {s : State} {p : Byte} (h : s.ime = false ∨ p = 0) : s.boundaryAction p = .execute := by
  rcases h with h | h
  · simp [State.boundaryAction, h]
  · rw [State.boundaryAction, h, selected_zero, ite_self]

/-- With IME = 1 and interrupt type `i` selected, a core that passes its boundary dispatches it. -/
theorem stepWith_dispatch (i : Fin 5) (h : s.passes) (hi : s.ime = true) (hs : selected s.pending = some i) :
    stepWith vec exec s = .next (onFlat (dispatch vec i) { s with run := .fetching, bus := [] }) := by
  rw [stepWith_action, action_of_passes s h, boundaryAction_dispatch hi hs]

/-- With IME = 0 or nothing pending, a core that passes its boundary runs the instruction of the opcode at PC. -/
theorem stepWith_execute (h : s.passes) (hi : s.ime = false ∨ s.pending = 0) :
    stepWith vec exec s = finishInstruction s.imePending
      (exec (decodeBase (s.peek s.pc)) { s with run := .fetching, pc := s.pc + 1, bus := [.read s.pc] }) := by
  rw [stepWith_action, action_of_passes s h, boundaryAction_execute hi]

/-- A core that passes its boundary goes on as a fetching one. -/
theorem stepWith_awake (h : s.passes) : stepWith vec exec s = stepWith vec exec s.awake := by
  by_cases hi : s.ime = false ∨ s.pending = 0
  · rw [stepWith_execute vec s h hi, stepWith_execute vec s.awake (.inl rfl) hi]
    rfl
  · simp only [not_or, Bool.not_eq_false] at hi
    obtain ⟨i, hs⟩ := selected_pending_isSome s hi.2
    rw [stepWith_dispatch vec s i h hi.1 hs, stepWith_dispatch vec s.awake i (.inl rfl) hi.1 hs]
    rfl

theorem stepWith_stopped (h : s.run = .stopped) :
    stepWith vec exec s = .next { s with status := .stopped, cycles := 0, bus := [] } := by
  cases s
  cases h
  rfl

theorem stepWith_faulted (b : Byte) (h : s.run = .faulted b) : stepWith vec exec s = .fault (.illegalOpcode b) := by
  cases s
  cases h
  rfl

theorem stepWith_halted_idle (h : s.run = .halted) (hp : s.pending = 0) :
    stepWith vec exec s = .next { s with status := .halted, cycles := 1, bus := [] } := by
  cases s
  cases h
  rw [stepWith_action]
  simp only [State.action, if_pos hp]
  rfl

/-- The next state of an instruction, at the end of the step. -/
theorem finishInstruction_next {p : Bool} {r : Result} {t : State} (h : finishInstruction p r = .next t) :
    ∃ v, r = .next v ∧ t = v.consumeImePending p := by
  cases r with
  | next v => exact ⟨v, rfl, by cases h; rfl⟩
  | fault r => cases h
  | refused r => cases h

/-- Everything a step that answers a next state can be: stopped, idle, a dispatch, or one instruction. -/
theorem stepWith_cases {vec : Fin 5 → Word} {s t : State} (h : stepWith vec exec s = .next t) :
    (s.run = .stopped ∧ t = { s with status := .stopped, cycles := 0, bus := [] }) ∨
    (s.run = .halted ∧ s.pending = 0 ∧ t = { s with status := .halted, cycles := 1, bus := [] }) ∨
    (s.passes ∧
      ((∃ i, s.ime = true ∧ selected s.pending = some i ∧
          t = onFlat (dispatch vec i) { s with run := .fetching, bus := [] }) ∨
        ((s.ime = false ∨ s.pending = 0) ∧ ∃ v, t = v.consumeImePending s.imePending ∧
          exec (decodeBase (s.peek s.pc)) { s with run := .fetching, pc := s.pc + 1, bus := [.read s.pc] } =
            .next v))) := by
  have boundary : s.passes →
      (∃ i, s.ime = true ∧ selected s.pending = some i ∧
          t = onFlat (dispatch vec i) { s with run := .fetching, bus := [] }) ∨
        ((s.ime = false ∨ s.pending = 0) ∧ ∃ v, t = v.consumeImePending s.imePending ∧
          exec (decodeBase (s.peek s.pc)) { s with run := .fetching, pc := s.pc + 1, bus := [.read s.pc] } =
            .next v) := by
    intro hs
    by_cases hi : s.ime = false ∨ s.pending = 0
    · rw [stepWith_execute vec s hs hi] at h
      obtain ⟨v, hv, ht⟩ := finishInstruction_next h
      exact .inr ⟨hi, v, ht, hv⟩
    · simp only [not_or, Bool.not_eq_false] at hi
      obtain ⟨i, hsel⟩ := selected_pending_isSome s hi.2
      rw [stepWith_dispatch vec s i hs hi.1 hsel] at h
      exact .inl ⟨i, hi.1, hsel, by cases h; rfl⟩
  cases hr : s.run with
  | stopped =>
    rw [stepWith_stopped vec s hr] at h
    exact .inl ⟨rfl, by cases h; rw [hr]⟩
  | faulted b =>
    rw [stepWith_faulted vec s b hr] at h
    cases h
  | halted =>
    by_cases hp : s.pending = 0
    · rw [stepWith_halted_idle vec s hr hp] at h
      exact .inr (.inl ⟨rfl, hp, by cases h; rw [hr]⟩)
    · exact .inr (.inr ⟨.inr (.inr ⟨hr, hp⟩), boundary (.inr (.inr ⟨hr, hp⟩))⟩)
  | fetching => exact .inr (.inr ⟨.inl hr, boundary (.inl hr)⟩)
  | prefixPending => exact .inr (.inr ⟨.inr (.inl hr), boundary (.inr (.inl hr))⟩)

/-- A step changes memory only by the writes of its trace. -/
theorem stepWith_traced {vec : Fin 5 → Word} {s t : State} (h : stepWith vec exec s = .next t) :
    Traced { s with bus := [] } t := by
  rcases stepWith_cases h with ⟨-, rfl⟩ | ⟨-, -, rfl⟩ | ⟨-, ⟨i, -, -, rfl⟩ | ⟨-, v, rfl, hv⟩⟩
  · exact Traced.of_eq rfl rfl
  · exact Traced.of_eq rfl rfl
  · exact (traced_onFlat _ _).congr_left rfl rfl
  · exact Traced.trans (t := { s with run := .fetching, pc := s.pc + 1, bus := [.read s.pc] }) ⟨[.read s.pc], rfl, rfl⟩
      ((exec_traced hv).congr (by simp) (by simp))

end Sys2Proof.Machine
end

