-- ==== Sys2Proof/Laws/Platform.lean ====
section
/-! SUPPORT. The step for any parameters, case by case (47_system.md R265, 20_memory.md R58): what it does on a platform,
that no effect touches the list that is the default memory but through the bus, and that the default bus is an
admissible one. -/

namespace Sys2Proof.Machine

variable {σ : Type}

/-- A program run with no trace before it: its result with its trace, and the platform that its accesses make. -/
theorem runOn_eq (β : Bus σ) (s : State) (R : BusProg State) (p : σ) (h : s.bus = []) :
    s.runOn β R p = ({ R.result β p with bus := R.trace β p }, performOn β p (R.trace β p)) := by
  simp only [State.runOn, BusProg.runOn_eq, h, List.nil_append]

/-- What a step on a platform does is what its action says. -/
theorem stepOn_action (P : Params σ) (s : State) (p : σ) :
    stepOn P s p =
      match State.action { s with bus := [] } (pendingIn (P.bus.peek p)) with
      | .idle st n => .next (State.report { s with bus := [] } st n, p)
      | .fault b => .fault (.illegalOpcode b)
      | .dispatch i =>
        .next (({ s with bus := [] } : State).runOn P.bus (dispatch P.intVector i { s with run := .fetching, bus := [] }) p)
      | .execute =>
        let r := ({ s with bus := [] } : State).runOn P.bus (executeProg { s with run := .fetching, bus := [] }) p
        .next (r.1.consumeImePending s.imePending, r.2) := rfl

theorem extProg_mem (e : ExtForm) (s : State) : (extProg e s).All fun t => t.mem = s.mem := by
  cases e with
  | rotReg op r => cases r <;> rfl
  | resReg i r => cases r <;> rfl
  | setBitReg i r => cases r <;> rfl
  | _ => first | exact rfl | exact fun _ => rfl

/-- An effect leaves the field `mem` alone: memory is reached by the bus. -/
theorem formProg_mem (f : Form) (s : State) : (formProg f s).All fun t => t.mem = s.mem := by
  cases f with
  | ext e => exact extProg_mem e s
  | prefixCB => exact fun b2 => extProg_mem (extForm b2) { s with run := .fetching, pc := s.pc + 1 }
  | jrCond cc => exact fun _ => all_ite _ _ _ rfl rfl
  | jpCond cc => exact fun _ _ => all_ite _ _ _ rfl rfl
  | callCond cc => exact fun _ _ => all_ite _ _ _ rfl rfl
  | retCond cc => exact all_ite _ _ _ (fun _ _ => rfl) rfl
  | ldRegReg dst src => cases dst <;> rfl
  | incReg r => cases r <;> rfl
  | decReg r => cases r <;> rfl
  | incR16 r => cases r <;> rfl
  | decR16 r => cases r <;> rfl
  | ldMemA m => cases m <;> rfl
  | ldAMem m => cases m <;> exact fun _ => rfl
  | aluReg op r => cases op <;> rfl
  | ldRegAtHL dst => exact fun _ => by cases dst <;> rfl
  | ldRegImm r => exact fun _ => by cases r <;> rfl
  | aluAtHL op => exact fun _ => by cases op <;> rfl
  | aluImm op => exact fun _ => by cases op <;> rfl
  | ldR16Imm r => exact fun _ _ => by cases r <;> rfl
  | pop r => exact fun _ _ => by cases r <;> rfl
  | _ => first | exact rfl | exact fun _ => rfl | exact fun _ _ => rfl | exact fun _ _ _ => rfl

theorem executeProg_mem (s : State) : (executeProg s).All fun t => t.mem = s.mem :=
  fun b => formProg_mem (baseForm b) { s with pc := s.pc + 1 }

/-- The end of the step looks at neither memory nor trace. -/
theorem consumeImePending_with (s : State) (p : Bool) (m : Memory) (tr : List BusAccess) :
    State.consumeImePending { s with mem := m, bus := tr } p = { s.consumeImePending p with mem := m, bus := tr } := by
  obtain ⟨_, _, _, _, _, _, _, _, _, _, _, _, run, _, _, _, _⟩ := s
  cases run <;> dsimp only [State.consumeImePending] <;> first | rfl | (split <;> rfl)

/-- The default bus meets what the core requires of a platform (20_memory.md R58). -/
theorem flatBus_admissible : busAdmissible flatBus := by
  refine ⟨fun m => ⟨rfl, rfl⟩, fun m i => ?_⟩
  have : i.val < 8 := by omega
  show (Memory.read (Memory.write m addrIF.toNat (acknowledged (Memory.read m addrIF.toNat) i)) addrIF.toNat).getLsbD i.val =
    false
  rw [read_write_word, if_pos rfl]
  simp [acknowledged, this]

end Sys2Proof.Machine
end

