-- ==== Sys2Proof/Tests/Slice0.lean ====
section
/-! SUPPORT. Tests: what well-formedness refuses; the instruction of every opcode byte, written from the tables of
30_encoding.md and spec/opcode_table.json; single steps on the vectors of 95_test_vectors.md; steps on other parameters
(20_memory.md R58, 60_exceptions.md R318); and a witness for every statement that has hypotheses. -/

namespace Sys2Proof.Tests

open Sys2Proof Sys2Proof.Machine

/-! ### well-formedness refuses ill-formed terms -/

theorem test_prefix_alone_is_not_whole : wellFormed .prefix_CB = false := by decide

theorem test_missing_operand_refused : wellFormedWith .ld_B_n8 [] = false := by decide

theorem test_spurious_operand_refused : wellFormedWith .nop [0x00] = false := by decide

theorem test_short_word_operand_refused : wellFormedWith .jp_n16 [0x34] = false := by decide

theorem test_prefix_with_no_operand_refused : wellFormedWith .prefix_CB [] = false := by decide

theorem test_illegal_opcode_is_whole : wellFormedWith .illegal_0xD3 [] = true := by decide

theorem test_decode_of_nothing : decode [] = .error .noByte := rfl

theorem test_decode_of_bare_prefix : decode [0xCB] = .error .noSecondByte := rfl

theorem test_decode_of_short_operand : decode [0x01, 0x34] = .error .shortOperand := rfl

theorem test_decode_little_endian_operand :
    decode [0x01, 0x34, 0x12, 0x76] = .ok (.ld_BC_n16, [0x34, 0x12], [0x76]) := rfl

/-! ### the opcode byte of every constructor (30_encoding.md R84 to R89) -/

theorem test_base_0x00 :
    [0x00, 0x01, 0x02, 0x03, 0x04, 0x05, 0x06, 0x07, 0x08, 0x09, 0x0A, 0x0B, 0x0C, 0x0D, 0x0E, 0x0F].map decodeBase =
      [.nop, .ld_BC_n16, .ld_atBC_A, .inc_BC, .inc_B, .dec_B, .ld_B_n8, .rlca,
        .ld_atN16_SP, .add_HL_BC, .ld_A_atBC, .dec_BC, .inc_C, .dec_C, .ld_C_n8, .rrca] := by
  decide

theorem test_base_0x10 :
    [0x10, 0x11, 0x12, 0x13, 0x14, 0x15, 0x16, 0x17, 0x18, 0x19, 0x1A, 0x1B, 0x1C, 0x1D, 0x1E, 0x1F].map decodeBase =
      [.stop, .ld_DE_n16, .ld_atDE_A, .inc_DE, .inc_D, .dec_D, .ld_D_n8, .rla,
        .jr_e8, .add_HL_DE, .ld_A_atDE, .dec_DE, .inc_E, .dec_E, .ld_E_n8, .rra] := by
  decide

theorem test_base_0x20 :
    [0x20, 0x21, 0x22, 0x23, 0x24, 0x25, 0x26, 0x27, 0x28, 0x29, 0x2A, 0x2B, 0x2C, 0x2D, 0x2E, 0x2F].map decodeBase =
      [.jr_NZ_e8, .ld_HL_n16, .ld_atHLinc_A, .inc_HL, .inc_H, .dec_H, .ld_H_n8, .daa,
        .jr_Z_e8, .add_HL_HL, .ld_A_atHLinc, .dec_HL, .inc_L, .dec_L, .ld_L_n8, .cpl] := by
  decide

theorem test_base_0x30 :
    [0x30, 0x31, 0x32, 0x33, 0x34, 0x35, 0x36, 0x37, 0x38, 0x39, 0x3A, 0x3B, 0x3C, 0x3D, 0x3E, 0x3F].map decodeBase =
      [.jr_NC_e8, .ld_SP_n16, .ld_atHLdec_A, .inc_SP, .inc_atHL, .dec_atHL, .ld_atHL_n8, .scf,
        .jr_C_e8, .add_HL_SP, .ld_A_atHLdec, .dec_SP, .inc_A, .dec_A, .ld_A_n8, .ccf] := by
  decide

theorem test_base_0x40 :
    [0x40, 0x41, 0x42, 0x43, 0x44, 0x45, 0x46, 0x47, 0x48, 0x49, 0x4A, 0x4B, 0x4C, 0x4D, 0x4E, 0x4F].map decodeBase =
      [.ld_B_B, .ld_B_C, .ld_B_D, .ld_B_E, .ld_B_H, .ld_B_L, .ld_B_atHL, .ld_B_A,
        .ld_C_B, .ld_C_C, .ld_C_D, .ld_C_E, .ld_C_H, .ld_C_L, .ld_C_atHL, .ld_C_A] := by
  decide

theorem test_base_0x50 :
    [0x50, 0x51, 0x52, 0x53, 0x54, 0x55, 0x56, 0x57, 0x58, 0x59, 0x5A, 0x5B, 0x5C, 0x5D, 0x5E, 0x5F].map decodeBase =
      [.ld_D_B, .ld_D_C, .ld_D_D, .ld_D_E, .ld_D_H, .ld_D_L, .ld_D_atHL, .ld_D_A,
        .ld_E_B, .ld_E_C, .ld_E_D, .ld_E_E, .ld_E_H, .ld_E_L, .ld_E_atHL, .ld_E_A] := by
  decide

theorem test_base_0x60 :
    [0x60, 0x61, 0x62, 0x63, 0x64, 0x65, 0x66, 0x67, 0x68, 0x69, 0x6A, 0x6B, 0x6C, 0x6D, 0x6E, 0x6F].map decodeBase =
      [.ld_H_B, .ld_H_C, .ld_H_D, .ld_H_E, .ld_H_H, .ld_H_L, .ld_H_atHL, .ld_H_A,
        .ld_L_B, .ld_L_C, .ld_L_D, .ld_L_E, .ld_L_H, .ld_L_L, .ld_L_atHL, .ld_L_A] := by
  decide

theorem test_base_0x70 :
    [0x70, 0x71, 0x72, 0x73, 0x74, 0x75, 0x76, 0x77, 0x78, 0x79, 0x7A, 0x7B, 0x7C, 0x7D, 0x7E, 0x7F].map decodeBase =
      [.ld_atHL_B, .ld_atHL_C, .ld_atHL_D, .ld_atHL_E, .ld_atHL_H, .ld_atHL_L, .halt, .ld_atHL_A,
        .ld_A_B, .ld_A_C, .ld_A_D, .ld_A_E, .ld_A_H, .ld_A_L, .ld_A_atHL, .ld_A_A] := by
  decide

theorem test_base_0x80 :
    [0x80, 0x81, 0x82, 0x83, 0x84, 0x85, 0x86, 0x87, 0x88, 0x89, 0x8A, 0x8B, 0x8C, 0x8D, 0x8E, 0x8F].map decodeBase =
      [.add_A_B, .add_A_C, .add_A_D, .add_A_E, .add_A_H, .add_A_L, .add_A_atHL, .add_A_A,
        .adc_A_B, .adc_A_C, .adc_A_D, .adc_A_E, .adc_A_H, .adc_A_L, .adc_A_atHL, .adc_A_A] := by
  decide

theorem test_base_0x90 :
    [0x90, 0x91, 0x92, 0x93, 0x94, 0x95, 0x96, 0x97, 0x98, 0x99, 0x9A, 0x9B, 0x9C, 0x9D, 0x9E, 0x9F].map decodeBase =
      [.sub_A_B, .sub_A_C, .sub_A_D, .sub_A_E, .sub_A_H, .sub_A_L, .sub_A_atHL, .sub_A_A,
        .sbc_A_B, .sbc_A_C, .sbc_A_D, .sbc_A_E, .sbc_A_H, .sbc_A_L, .sbc_A_atHL, .sbc_A_A] := by
  decide

theorem test_base_0xA0 :
    [0xA0, 0xA1, 0xA2, 0xA3, 0xA4, 0xA5, 0xA6, 0xA7, 0xA8, 0xA9, 0xAA, 0xAB, 0xAC, 0xAD, 0xAE, 0xAF].map decodeBase =
      [.and_A_B, .and_A_C, .and_A_D, .and_A_E, .and_A_H, .and_A_L, .and_A_atHL, .and_A_A,
        .xor_A_B, .xor_A_C, .xor_A_D, .xor_A_E, .xor_A_H, .xor_A_L, .xor_A_atHL, .xor_A_A] := by
  decide

theorem test_base_0xB0 :
    [0xB0, 0xB1, 0xB2, 0xB3, 0xB4, 0xB5, 0xB6, 0xB7, 0xB8, 0xB9, 0xBA, 0xBB, 0xBC, 0xBD, 0xBE, 0xBF].map decodeBase =
      [.or_A_B, .or_A_C, .or_A_D, .or_A_E, .or_A_H, .or_A_L, .or_A_atHL, .or_A_A,
        .cp_A_B, .cp_A_C, .cp_A_D, .cp_A_E, .cp_A_H, .cp_A_L, .cp_A_atHL, .cp_A_A] := by
  decide

theorem test_base_0xC0 :
    [0xC0, 0xC1, 0xC2, 0xC3, 0xC4, 0xC5, 0xC6, 0xC7, 0xC8, 0xC9, 0xCA, 0xCB, 0xCC, 0xCD, 0xCE, 0xCF].map decodeBase =
      [.ret_NZ, .pop_BC, .jp_NZ_n16, .jp_n16, .call_NZ_n16, .push_BC, .add_A_n8, .rst_0x00,
        .ret_Z, .ret, .jp_Z_n16, .prefix_CB, .call_Z_n16, .call_n16, .adc_A_n8, .rst_0x08] := by
  decide

theorem test_base_0xD0 :
    [0xD0, 0xD1, 0xD2, 0xD3, 0xD4, 0xD5, 0xD6, 0xD7, 0xD8, 0xD9, 0xDA, 0xDB, 0xDC, 0xDD, 0xDE, 0xDF].map decodeBase =
      [.ret_NC, .pop_DE, .jp_NC_n16, .illegal_0xD3, .call_NC_n16, .push_DE, .sub_A_n8, .rst_0x10,
        .ret_C, .reti, .jp_C_n16, .illegal_0xDB, .call_C_n16, .illegal_0xDD, .sbc_A_n8, .rst_0x18] := by
  decide

theorem test_base_0xE0 :
    [0xE0, 0xE1, 0xE2, 0xE3, 0xE4, 0xE5, 0xE6, 0xE7, 0xE8, 0xE9, 0xEA, 0xEB, 0xEC, 0xED, 0xEE, 0xEF].map decodeBase =
      [.ldh_atN8_A, .pop_HL, .ldh_atC_A, .illegal_0xE3, .illegal_0xE4, .push_HL, .and_A_n8, .rst_0x20,
        .add_SP_e8, .jp_HL, .ld_atN16_A, .illegal_0xEB, .illegal_0xEC, .illegal_0xED, .xor_A_n8, .rst_0x28] := by
  decide

theorem test_base_0xF0 :
    [0xF0, 0xF1, 0xF2, 0xF3, 0xF4, 0xF5, 0xF6, 0xF7, 0xF8, 0xF9, 0xFA, 0xFB, 0xFC, 0xFD, 0xFE, 0xFF].map decodeBase =
      [.ldh_A_atN8, .pop_AF, .ldh_A_atC, .di, .illegal_0xF4, .push_AF, .or_A_n8, .rst_0x30,
        .ld_HL_SPe8, .ld_SP_HL, .ld_A_atN16, .ei, .illegal_0xFC, .illegal_0xFD, .cp_A_n8, .rst_0x38] := by
  decide

theorem test_extended_0x00 :
    [0x00, 0x01, 0x02, 0x03, 0x04, 0x05, 0x06, 0x07, 0x08, 0x09, 0x0A, 0x0B, 0x0C, 0x0D, 0x0E, 0x0F].map decodeExt =
      [.rlc_B, .rlc_C, .rlc_D, .rlc_E, .rlc_H, .rlc_L, .rlc_atHL, .rlc_A,
        .rrc_B, .rrc_C, .rrc_D, .rrc_E, .rrc_H, .rrc_L, .rrc_atHL, .rrc_A] := by
  decide

theorem test_extended_0x10 :
    [0x10, 0x11, 0x12, 0x13, 0x14, 0x15, 0x16, 0x17, 0x18, 0x19, 0x1A, 0x1B, 0x1C, 0x1D, 0x1E, 0x1F].map decodeExt =
      [.rl_B, .rl_C, .rl_D, .rl_E, .rl_H, .rl_L, .rl_atHL, .rl_A,
        .rr_B, .rr_C, .rr_D, .rr_E, .rr_H, .rr_L, .rr_atHL, .rr_A] := by
  decide

theorem test_extended_0x20 :
    [0x20, 0x21, 0x22, 0x23, 0x24, 0x25, 0x26, 0x27, 0x28, 0x29, 0x2A, 0x2B, 0x2C, 0x2D, 0x2E, 0x2F].map decodeExt =
      [.sla_B, .sla_C, .sla_D, .sla_E, .sla_H, .sla_L, .sla_atHL, .sla_A,
        .sra_B, .sra_C, .sra_D, .sra_E, .sra_H, .sra_L, .sra_atHL, .sra_A] := by
  decide

theorem test_extended_0x30 :
    [0x30, 0x31, 0x32, 0x33, 0x34, 0x35, 0x36, 0x37, 0x38, 0x39, 0x3A, 0x3B, 0x3C, 0x3D, 0x3E, 0x3F].map decodeExt =
      [.swap_B, .swap_C, .swap_D, .swap_E, .swap_H, .swap_L, .swap_atHL, .swap_A,
        .srl_B, .srl_C, .srl_D, .srl_E, .srl_H, .srl_L, .srl_atHL, .srl_A] := by
  decide

theorem test_extended_0x40 :
    [0x40, 0x41, 0x42, 0x43, 0x44, 0x45, 0x46, 0x47, 0x48, 0x49, 0x4A, 0x4B, 0x4C, 0x4D, 0x4E, 0x4F].map decodeExt =
      [.bit_0_B, .bit_0_C, .bit_0_D, .bit_0_E, .bit_0_H, .bit_0_L, .bit_0_atHL, .bit_0_A,
        .bit_1_B, .bit_1_C, .bit_1_D, .bit_1_E, .bit_1_H, .bit_1_L, .bit_1_atHL, .bit_1_A] := by
  decide

theorem test_extended_0x50 :
    [0x50, 0x51, 0x52, 0x53, 0x54, 0x55, 0x56, 0x57, 0x58, 0x59, 0x5A, 0x5B, 0x5C, 0x5D, 0x5E, 0x5F].map decodeExt =
      [.bit_2_B, .bit_2_C, .bit_2_D, .bit_2_E, .bit_2_H, .bit_2_L, .bit_2_atHL, .bit_2_A,
        .bit_3_B, .bit_3_C, .bit_3_D, .bit_3_E, .bit_3_H, .bit_3_L, .bit_3_atHL, .bit_3_A] := by
  decide

theorem test_extended_0x60 :
    [0x60, 0x61, 0x62, 0x63, 0x64, 0x65, 0x66, 0x67, 0x68, 0x69, 0x6A, 0x6B, 0x6C, 0x6D, 0x6E, 0x6F].map decodeExt =
      [.bit_4_B, .bit_4_C, .bit_4_D, .bit_4_E, .bit_4_H, .bit_4_L, .bit_4_atHL, .bit_4_A,
        .bit_5_B, .bit_5_C, .bit_5_D, .bit_5_E, .bit_5_H, .bit_5_L, .bit_5_atHL, .bit_5_A] := by
  decide

theorem test_extended_0x70 :
    [0x70, 0x71, 0x72, 0x73, 0x74, 0x75, 0x76, 0x77, 0x78, 0x79, 0x7A, 0x7B, 0x7C, 0x7D, 0x7E, 0x7F].map decodeExt =
      [.bit_6_B, .bit_6_C, .bit_6_D, .bit_6_E, .bit_6_H, .bit_6_L, .bit_6_atHL, .bit_6_A,
        .bit_7_B, .bit_7_C, .bit_7_D, .bit_7_E, .bit_7_H, .bit_7_L, .bit_7_atHL, .bit_7_A] := by
  decide

theorem test_extended_0x80 :
    [0x80, 0x81, 0x82, 0x83, 0x84, 0x85, 0x86, 0x87, 0x88, 0x89, 0x8A, 0x8B, 0x8C, 0x8D, 0x8E, 0x8F].map decodeExt =
      [.res_0_B, .res_0_C, .res_0_D, .res_0_E, .res_0_H, .res_0_L, .res_0_atHL, .res_0_A,
        .res_1_B, .res_1_C, .res_1_D, .res_1_E, .res_1_H, .res_1_L, .res_1_atHL, .res_1_A] := by
  decide

theorem test_extended_0x90 :
    [0x90, 0x91, 0x92, 0x93, 0x94, 0x95, 0x96, 0x97, 0x98, 0x99, 0x9A, 0x9B, 0x9C, 0x9D, 0x9E, 0x9F].map decodeExt =
      [.res_2_B, .res_2_C, .res_2_D, .res_2_E, .res_2_H, .res_2_L, .res_2_atHL, .res_2_A,
        .res_3_B, .res_3_C, .res_3_D, .res_3_E, .res_3_H, .res_3_L, .res_3_atHL, .res_3_A] := by
  decide

theorem test_extended_0xA0 :
    [0xA0, 0xA1, 0xA2, 0xA3, 0xA4, 0xA5, 0xA6, 0xA7, 0xA8, 0xA9, 0xAA, 0xAB, 0xAC, 0xAD, 0xAE, 0xAF].map decodeExt =
      [.res_4_B, .res_4_C, .res_4_D, .res_4_E, .res_4_H, .res_4_L, .res_4_atHL, .res_4_A,
        .res_5_B, .res_5_C, .res_5_D, .res_5_E, .res_5_H, .res_5_L, .res_5_atHL, .res_5_A] := by
  decide

theorem test_extended_0xB0 :
    [0xB0, 0xB1, 0xB2, 0xB3, 0xB4, 0xB5, 0xB6, 0xB7, 0xB8, 0xB9, 0xBA, 0xBB, 0xBC, 0xBD, 0xBE, 0xBF].map decodeExt =
      [.res_6_B, .res_6_C, .res_6_D, .res_6_E, .res_6_H, .res_6_L, .res_6_atHL, .res_6_A,
        .res_7_B, .res_7_C, .res_7_D, .res_7_E, .res_7_H, .res_7_L, .res_7_atHL, .res_7_A] := by
  decide

theorem test_extended_0xC0 :
    [0xC0, 0xC1, 0xC2, 0xC3, 0xC4, 0xC5, 0xC6, 0xC7, 0xC8, 0xC9, 0xCA, 0xCB, 0xCC, 0xCD, 0xCE, 0xCF].map decodeExt =
      [.set_0_B, .set_0_C, .set_0_D, .set_0_E, .set_0_H, .set_0_L, .set_0_atHL, .set_0_A,
        .set_1_B, .set_1_C, .set_1_D, .set_1_E, .set_1_H, .set_1_L, .set_1_atHL, .set_1_A] := by
  decide

theorem test_extended_0xD0 :
    [0xD0, 0xD1, 0xD2, 0xD3, 0xD4, 0xD5, 0xD6, 0xD7, 0xD8, 0xD9, 0xDA, 0xDB, 0xDC, 0xDD, 0xDE, 0xDF].map decodeExt =
      [.set_2_B, .set_2_C, .set_2_D, .set_2_E, .set_2_H, .set_2_L, .set_2_atHL, .set_2_A,
        .set_3_B, .set_3_C, .set_3_D, .set_3_E, .set_3_H, .set_3_L, .set_3_atHL, .set_3_A] := by
  decide

theorem test_extended_0xE0 :
    [0xE0, 0xE1, 0xE2, 0xE3, 0xE4, 0xE5, 0xE6, 0xE7, 0xE8, 0xE9, 0xEA, 0xEB, 0xEC, 0xED, 0xEE, 0xEF].map decodeExt =
      [.set_4_B, .set_4_C, .set_4_D, .set_4_E, .set_4_H, .set_4_L, .set_4_atHL, .set_4_A,
        .set_5_B, .set_5_C, .set_5_D, .set_5_E, .set_5_H, .set_5_L, .set_5_atHL, .set_5_A] := by
  decide

theorem test_extended_0xF0 :
    [0xF0, 0xF1, 0xF2, 0xF3, 0xF4, 0xF5, 0xF6, 0xF7, 0xF8, 0xF9, 0xFA, 0xFB, 0xFC, 0xFD, 0xFE, 0xFF].map decodeExt =
      [.set_6_B, .set_6_C, .set_6_D, .set_6_E, .set_6_H, .set_6_L, .set_6_atHL, .set_6_A,
        .set_7_B, .set_7_C, .set_7_D, .set_7_E, .set_7_H, .set_7_L, .set_7_atHL, .set_7_A] := by
  decide

/-- The opcode table numbers a row of the extended table with the prefix in bits 15 to 8. -/
theorem test_table_word_numbering :
    [decodeTableWord 8 0x41, decodeTableWord 8 0xCB, decodeTableWord 16 0xCB7E, decodeTableWord 8 0xD3] =
      [some .ld_B_C, some .prefix_CB, some .bit_7_atHL, some .illegal_0xD3] := by
  decide

/-! ### single steps on vectors of 95_test_vectors.md: A to L and F are 0, SP = 0xFFFE, PC = 0x0100 where not given -/

/-- The start state of the vectors. -/
def base : State := { State.reset with pc := 0x0100, sp := 0xFFFE }

/-- One step on the bytes `bs` at PC. -/
def run1 (bs : List Byte) (s : State) : State :=
  match step (s.place s.pc bs) with
  | .next t => t
  | _ => s

/-- V3 (R110): LD L,H: source is read before the destination is written -/
theorem test_V3 :
    (let t := run1 [0x6C] { base with h := 0x12, l := 0xAB }
     (t.l, t.pc, t.status, t.cycles)) =
      (0x12, 0x0101, .ran, 1) := by
  decide

/-- V5 (R111): LD L,[HL]: address uses the old HL -/
theorem test_V5 :
    (let t := run1 [0x6E] (({ base with h := 0xC0, l := 0x00 } : State).place 0xC000 [0x34])
     (t.l, t.pc, t.status, t.cycles)) =
      (0x34, 0x0101, .ran, 2) := by
  decide

/-- V7 (R112): LD [HL],H stores the high byte of the address -/
theorem test_V7 :
    (let t := run1 [0x74] { base with h := 0xC0, l := 0xDE }
     (t.pc, t.peek 0xC0DE, t.status, t.cycles)) =
      (0x0101, 0xC0, .ran, 2) := by
  decide

/-- V9 (R114): LD [HL],n8 -/
theorem test_V9 :
    (let t := run1 [0x36, 0xAB] { base with h := 0xD0, l := 0x00 }
     (t.pc, t.peek 0xD000, t.status, t.cycles)) =
      (0x0102, 0xAB, .ran, 3) := by
  decide

/-- V11 (R115): LD [HL+],A: store at old HL, then HL+1 -/
theorem test_V11 :
    (let t := run1 [0x22] { base with a := 0x42, h := 0xC1, l := 0xFF }
     (t.h, t.l, t.pc, t.peek 0xC1FF, t.status, t.cycles)) =
      (0xC2, 0x00, 0x0101, 0x42, .ran, 2) := by
  decide

/-- V12 (R115): LD [HL-],A at HL=0x0000 wraps HL to 0xFFFF -/
theorem test_V12 :
    (let t := run1 [0x32] { base with a := 0x42, h := 0x00, l := 0x00 }
     (t.h, t.l, t.pc, t.peek 0x0000, t.status, t.cycles)) =
      (0xFF, 0xFF, 0x0101, 0x42, .ran, 2) := by
  decide

/-- V13 (R116): LD A,[HL+] at HL=0xFFFF wraps HL to 0x0000 (reads IE) -/
theorem test_V13 :
    (let t := run1 [0x2A] (({ base with h := 0xFF, l := 0xFF } : State).place 0xFFFF [0x1F])
     (t.a, t.h, t.l, t.pc, t.status, t.cycles)) =
      (0x1F, 0x00, 0x00, 0x0101, .ran, 2) := by
  decide

/-- V16 (R117): LDH [C],A: address 0xFF00+C -/
theorem test_V16 :
    (let t := run1 [0xE2] { base with a := 0x42, c := 0x80 }
     (t.pc, t.peek 0xFF80, t.status, t.cycles)) =
      (0x0101, 0x42, .ran, 2) := by
  decide

/-- V17 (R118): LDH A,[C] with C=0xFF reads IE -/
theorem test_V17 :
    (let t := run1 [0xF2] (({ base with c := 0xFF } : State).place 0xFFFF [0x15])
     (t.a, t.pc, t.status, t.cycles)) =
      (0x15, 0x0101, .ran, 2) := by
  decide

/-- V18 (R119): LDH [n8],A writes IF -/
theorem test_V18 :
    (let t := run1 [0xE0, 0x0F] { base with a := 0x04 }
     (t.pc, t.peek 0xFF0F, t.status, t.cycles)) =
      (0x0102, 0x04, .ran, 3) := by
  decide

/-- V19 (R120): LDH A,[n8] -/
theorem test_V19 :
    (let t := run1 [0xF0, 0x80] (base.place 0xFF80 [0x9A])
     (t.a, t.pc, t.status, t.cycles)) =
      (0x9A, 0x0102, .ran, 3) := by
  decide

/-- V20 (R121): LD [n16],A, operand little-endian -/
theorem test_V20 :
    (let t := run1 [0xEA, 0x00, 0xC0] { base with a := 0x42 }
     (t.pc, t.peek 0xC000, t.status, t.cycles)) =
      (0x0103, 0x42, .ran, 4) := by
  decide

/-- V21 (R122): LD A,[n16] -/
theorem test_V21 :
    (let t := run1 [0xFA, 0x34, 0x12] (base.place 0x1234 [0x77])
     (t.a, t.pc, t.status, t.cycles)) =
      (0x77, 0x0103, .ran, 4) := by
  decide

/-- V22 (R140): the source scenario (§8) -/
theorem test_V22 :
    (let t := run1 [0x01, 0x3C, 0xBC] base
     (t.b, t.c, t.pc, t.status, t.cycles)) =
      (0xBC, 0x3C, 0x0103, .ran, 3) := by
  decide

/-- V25 (R141): LD [n16],SP: low byte at n16, high byte at n16+1 -/
theorem test_V25 :
    (let t := run1 [0x08, 0x00, 0xC0] { base with sp := 0xFFF8 }
     (t.pc, t.peek 0xC000, t.peek 0xC001, t.status, t.cycles)) =
      (0x0103, 0xF8, 0xFF, .ran, 5) := by
  decide

/-- V26 (R141, R59): second byte wraps to 0x0000 -/
theorem test_V26 :
    (let t := run1 [0x08, 0xFF, 0xFF] { base with sp := 0xABCD }
     (t.pc, t.peek 0x0000, t.peek 0xFFFF, t.status, t.cycles)) =
      (0x0103, 0xAB, 0xCD, .ran, 5) := by
  decide

/-- V27 (R142): LD SP,HL -/
theorem test_V27 :
    (let t := run1 [0xF9] { base with h := 0xC1, l := 0x23 }
     (t.sp, t.pc, t.status, t.cycles)) =
      (0xC123, 0x0101, .ran, 2) := by
  decide

/-- V30 (R143, R144): e8 = -1 from SP = 0x0000: HL = 0xFFFF and no carries (0x00 + 0xFF) -/
theorem test_V30 :
    (let t := run1 [0xF8, 0xFF] { base with sp := 0x0000 }
     (t.h, t.l, t.pc, t.status, t.cycles)) =
      (0xFF, 0xFF, 0x0102, .ran, 3) := by
  decide

/-- V31 (R143, R144): e8 = -1 from SP = 0x0001: HL = 0x0000, H = C = 1, Z still 0 -/
theorem test_V31 :
    (let t := run1 [0xF8, 0xFF] { base with sp := 0x0001 }
     (t.f, t.pc, t.status, t.cycles)) =
      (0x30, 0x0102, .ran, 3) := by
  decide

/-- V34 (R157): ADD: both carries and zero -/
theorem test_V34 :
    (let t := run1 [0x80] { base with a := 0x3A, b := 0xC6 }
     (t.a, t.f, t.pc, t.status, t.cycles)) =
      (0x00, 0xB0, 0x0101, .ran, 1) := by
  decide

/-- V38 (R158): ADD A,[HL] -/
theorem test_V38 :
    (let t := run1 [0x86] (({ base with a := 0x01, h := 0xC0, l := 0x00 } : State).place 0xC000 [0x0F])
     (t.a, t.f, t.pc, t.status, t.cycles)) =
      (0x10, 0x20, 0x0101, .ran, 2) := by
  decide

/-- V39 (R159): ADD A,n8 -/
theorem test_V39 :
    (let t := run1 [0xC6, 0xFF] { base with a := 0x01 }
     (t.a, t.f, t.pc, t.status, t.cycles)) =
      (0x00, 0xB0, 0x0102, .ran, 2) := by
  decide

/-- V42 (R160): ADC: 0xFF + 0xFF + 1 -/
theorem test_V42 :
    (let t := run1 [0x88] { base with a := 0xFF, f := 0x10, b := 0xFF }
     (t.f, t.pc, t.status, t.cycles)) =
      (0x30, 0x0101, .ran, 1) := by
  decide

/-- V43 (R162): ADC A,n8 with carry clear -/
theorem test_V43 :
    (let t := run1 [0xCE, 0x0F] { base with a := 0x01, f := 0x00 }
     (t.a, t.f, t.pc, t.status, t.cycles)) =
      (0x10, 0x20, 0x0102, .ran, 2) := by
  decide

/-- V46 (R163): SUB: full borrow -/
theorem test_V46 :
    (let t := run1 [0x90] { base with a := 0x00, b := 0x01 }
     (t.a, t.f, t.pc, t.status, t.cycles)) =
      (0xFF, 0x70, 0x0101, .ran, 1) := by
  decide

/-- V48 (R165): SUB A,n8 -/
theorem test_V48 :
    (let t := run1 [0xD6, 0x0F] { base with a := 0x3E }
     (t.a, t.f, t.pc, t.status, t.cycles)) =
      (0x2F, 0x60, 0x0102, .ran, 2) := by
  decide

/-- V50 (R166): SBC: 0x10 - 0x0F - 1 = 0x00, half-borrow -/
theorem test_V50 :
    (let t := run1 [0x98] { base with a := 0x10, f := 0x10, b := 0x0F }
     (t.a, t.f, t.pc, t.status, t.cycles)) =
      (0x00, 0xE0, 0x0101, .ran, 1) := by
  decide

/-- V52 (R167): SBC A,[HL] -/
theorem test_V52 :
    (let t := run1 [0x9E] (({ base with a := 0x3B, f := 0x10, h := 0xC0, l := 0x00 } : State).place 0xC000 [0x4F])
     (t.a, t.f, t.pc, t.status, t.cycles)) =
      (0xEB, 0x70, 0x0101, .ran, 2) := by
  decide

/-- V54 (R169): AND to zero -/
theorem test_V54 :
    (let t := run1 [0xA0] { base with a := 0xF0, b := 0x0F }
     (t.a, t.f, t.pc, t.status, t.cycles)) =
      (0x00, 0xA0, 0x0101, .ran, 1) := by
  decide

/-- V55 (R171): AND A,n8 -/
theorem test_V55 :
    (let t := run1 [0xE6, 0x38] { base with a := 0x5A }
     (t.a, t.f, t.pc, t.status, t.cycles)) =
      (0x18, 0x20, 0x0102, .ran, 2) := by
  decide

/-- V57 (R172): XOR A,A clears A, F=0x80 -/
theorem test_V57 :
    (let t := run1 [0xAF] { base with a := 0x77, f := 0x70 }
     (t.a, t.f, t.pc, t.status, t.cycles)) =
      (0x00, 0x80, 0x0101, .ran, 1) := by
  decide

/-- V59 (R175): OR A,A with A=0: Z set -/
theorem test_V59 :
    (let t := run1 [0xB7] { base with a := 0x00, f := 0x70 }
     (t.f, t.pc, t.status, t.cycles)) =
      (0x80, 0x0101, .ran, 1) := by
  decide

/-- V61 (R178): CP: A < operand -/
theorem test_V61 :
    (let t := run1 [0xB8] { base with a := 0x3C, b := 0x40 }
     (t.f, t.pc, t.status, t.cycles)) =
      (0x50, 0x0101, .ran, 1) := by
  decide

/-- V62 (R180): CP A,n8: half-borrow -/
theorem test_V62 :
    (let t := run1 [0xFE, 0x2F] { base with a := 0x3C }
     (t.f, t.pc, t.status, t.cycles)) =
      (0x60, 0x0102, .ran, 2) := by
  decide

/-- V63 (R153): the source scenario (§8); C kept -/
theorem test_V63 :
    (let t := run1 [0x04] { base with f := 0x10, b := 0x0F }
     (t.f, t.b, t.pc, t.status, t.cycles)) =
      (0x30, 0x10, 0x0101, .ran, 1) := by
  decide

/-- V65 (R154): INC [HL]: read, then write -/
theorem test_V65 :
    (let t := run1 [0x34] (({ base with h := 0xC0, l := 0x00 } : State).place 0xC000 [0x0F])
     (t.f, t.pc, t.peek 0xC000, t.status, t.cycles)) =
      (0x20, 0x0101, 0x10, .ran, 3) := by
  decide

/-- V67 (R155): DEC B 0x00 -> 0xFF: half-borrow, C kept -/
theorem test_V67 :
    (let t := run1 [0x05] { base with f := 0x10, b := 0x00 }
     (t.f, t.b, t.pc, t.status, t.cycles)) =
      (0x70, 0xFF, 0x0101, .ran, 1) := by
  decide

/-- V69 (R156): DEC [HL] -/
theorem test_V69 :
    (let t := run1 [0x35] (({ base with h := 0xC0, l := 0x00 } : State).place 0xC000 [0x01])
     (t.f, t.pc, t.peek 0xC000, t.status, t.cycles)) =
      (0xC0, 0x0101, 0x00, .ran, 3) := by
  decide

/-- V70 (R181): the source scenario (§8) -/
theorem test_V70 :
    (let t := run1 [0x27] { base with a := 0x9C, f := 0x00 }
     (t.a, t.f, t.pc, t.status, t.cycles)) =
      (0x02, 0x10, 0x0101, .ran, 1) := by
  decide

/-- V74 (R181): after a subtraction: 0x83 - 0x38 = 0x4B, N H -/
theorem test_V74 :
    (let t := run1 [0x27] { base with a := 0x4B, f := 0x60 }
     (t.a, t.f, t.pc, t.status, t.cycles)) =
      (0x45, 0x40, 0x0101, .ran, 1) := by
  decide

/-- V78 (R182): CPL -/
theorem test_V78 :
    (let t := run1 [0x2F] { base with a := 0x35, f := 0x90 }
     (t.a, t.f, t.pc, t.status, t.cycles)) =
      (0xCA, 0xF0, 0x0101, .ran, 1) := by
  decide

/-- V79 (R183): SCF -/
theorem test_V79 :
    (let t := run1 [0x37] { base with a := 0x00, f := 0xE0 }
     (t.f, t.pc, t.status, t.cycles)) =
      (0x90, 0x0101, .ran, 1) := by
  decide

/-- V80 (R184): CCF: carry 1 -> 0 -/
theorem test_V80 :
    (let t := run1 [0x3F] { base with f := 0xF0 }
     (t.f, t.pc, t.status, t.cycles)) =
      (0x80, 0x0101, .ran, 1) := by
  decide

/-- V82 (R190): INC BC: carry into B, no flags -/
theorem test_V82 :
    (let t := run1 [0x03] { base with f := 0xF0, b := 0x00, c := 0xFF }
     (t.f, t.b, t.c, t.pc, t.status, t.cycles)) =
      (0xF0, 0x01, 0x00, 0x0101, .ran, 2) := by
  decide

/-- V86 (R191): DEC DE to zero does not set Z -/
theorem test_V86 :
    (let t := run1 [0x1B] { base with f := 0x00, d := 0x00, e := 0x01 }
     (t.f, t.e, t.pc, t.status, t.cycles)) =
      (0x00, 0x00, 0x0101, .ran, 2) := by
  decide

/-- V88 (R192): ADD HL,HL: H and C -/
theorem test_V88 :
    (let t := run1 [0x29] { base with f := 0x00, h := 0x8A, l := 0x23 }
     (t.f, t.h, t.l, t.pc, t.status, t.cycles)) =
      (0x30, 0x14, 0x46, 0x0101, .ran, 2) := by
  decide

/-- V89 (R192): ADD HL,DE: 0xFFFF + 0x0001 = 0x0000, Z not set -/
theorem test_V89 :
    (let t := run1 [0x19] { base with f := 0x00, d := 0x00, e := 0x01, h := 0xFF, l := 0xFF }
     (t.f, t.h, t.l, t.pc, t.status, t.cycles)) =
      (0x30, 0x00, 0x00, 0x0101, .ran, 2) := by
  decide

/-- V92 (R193, R144): e8 = -1 -/
theorem test_V92 :
    (let t := run1 [0xE8, 0xFF] { base with sp := 0x0001 }
     (t.f, t.sp, t.pc, t.status, t.cycles)) =
      (0x30, 0x0000, 0x0102, .ran, 4) := by
  decide

/-- V95 (R200): RLCA: Z cleared even when A stays 0 -/
theorem test_V95 :
    (let t := run1 [0x07] { base with a := 0x00, f := 0xF0 }
     (t.f, t.pc, t.status, t.cycles)) =
      (0x00, 0x0101, .ran, 1) := by
  decide

/-- V97 (R201): RRCA -/
theorem test_V97 :
    (let t := run1 [0x0F] { base with a := 0x01 }
     (t.a, t.f, t.pc, t.status, t.cycles)) =
      (0x80, 0x10, 0x0101, .ran, 1) := by
  decide

/-- V98 (R202): RLA: old carry enters bit 0 -/
theorem test_V98 :
    (let t := run1 [0x17] { base with a := 0x80, f := 0x00 }
     (t.a, t.f, t.pc, t.status, t.cycles)) =
      (0x00, 0x10, 0x0101, .ran, 1) := by
  decide

/-- V101 (R203): RRA: old carry enters bit 7 -/
theorem test_V101 :
    (let t := run1 [0x1F] { base with a := 0x00, f := 0x10 }
     (t.a, t.f, t.pc, t.status, t.cycles)) =
      (0x80, 0x00, 0x0101, .ran, 1) := by
  decide

/-- V103 (R205): RLC A of zero sets Z (unlike RLCA) -/
theorem test_V103 :
    (let t := run1 [0xCB, 0x07] { base with a := 0x00, f := 0x10 }
     (t.f, t.pc, t.status, t.cycles)) =
      (0x80, 0x0102, .ran, 2) := by
  decide

/-- V104 (R206): RLC [HL] -/
theorem test_V104 :
    (let t := run1 [0xCB, 0x06] (({ base with h := 0xC0, l := 0x00 } : State).place 0xC000 [0x80])
     (t.f, t.pc, t.peek 0xC000, t.status, t.cycles)) =
      (0x10, 0x0102, 0x01, .ran, 4) := by
  decide

/-- V105 (R207): RRC C -/
theorem test_V105 :
    (let t := run1 [0xCB, 0x09] { base with c := 0x01 }
     (t.f, t.c, t.pc, t.status, t.cycles)) =
      (0x10, 0x80, 0x0102, .ran, 2) := by
  decide

/-- V106 (R209): RL D through carry -/
theorem test_V106 :
    (let t := run1 [0xCB, 0x12] { base with f := 0x00, d := 0x80 }
     (t.f, t.d, t.pc, t.status, t.cycles)) =
      (0x90, 0x00, 0x0102, .ran, 2) := by
  decide

/-- V107 (R211): RR E through carry -/
theorem test_V107 :
    (let t := run1 [0xCB, 0x1B] { base with f := 0x10, e := 0x01 }
     (t.f, t.e, t.pc, t.status, t.cycles)) =
      (0x10, 0x80, 0x0102, .ran, 2) := by
  decide

/-- V108 (R213): SLA H -/
theorem test_V108 :
    (let t := run1 [0xCB, 0x24] { base with f := 0x00, h := 0xFF }
     (t.f, t.h, t.pc, t.status, t.cycles)) =
      (0x10, 0xFE, 0x0102, .ran, 2) := by
  decide

/-- V110 (R215): SRA L keeps bit 7 -/
theorem test_V110 :
    (let t := run1 [0xCB, 0x2D] { base with l := 0x81 }
     (t.f, t.l, t.pc, t.status, t.cycles)) =
      (0x10, 0xC0, 0x0102, .ran, 2) := by
  decide

/-- V112 (R217): SWAP A clears C -/
theorem test_V112 :
    (let t := run1 [0xCB, 0x37] { base with a := 0xF1, f := 0x10 }
     (t.a, t.f, t.pc, t.status, t.cycles)) =
      (0x1F, 0x00, 0x0102, .ran, 2) := by
  decide

/-- V113 (R218): SWAP [HL] of zero -/
theorem test_V113 :
    (let t := run1 [0xCB, 0x36] (({ base with f := 0x70, h := 0xC0, l := 0x00 } : State).place 0xC000 [0x00])
     (t.f, t.pc, t.peek 0xC000, t.status, t.cycles)) =
      (0x80, 0x0102, 0x00, .ran, 4) := by
  decide

/-- V114 (R219): SRL B -/
theorem test_V114 :
    (let t := run1 [0xCB, 0x38] { base with b := 0x81 }
     (t.f, t.b, t.pc, t.status, t.cycles)) =
      (0x10, 0x40, 0x0102, .ran, 2) := by
  decide

/-- V117 (R221): BIT 7,A: bit set, Z = 0, C kept -/
theorem test_V117 :
    (let t := run1 [0xCB, 0x7F] { base with a := 0x80, f := 0x10 }
     (t.f, t.pc, t.status, t.cycles)) =
      (0x30, 0x0102, .ran, 2) := by
  decide

/-- V119 (R222): BIT 0,[HL]: 3 cycles, no write -/
theorem test_V119 :
    (let t := run1 [0xCB, 0x46] (({ base with h := 0xC0, l := 0x00 } : State).place 0xC000 [0x01])
     (t.f, t.pc, t.status, t.cycles)) =
      (0x20, 0x0102, .ran, 3) := by
  decide

/-- V120 (R223): RES 0,A: no flags -/
theorem test_V120 :
    (let t := run1 [0xCB, 0x87] { base with a := 0xFF, f := 0xF0 }
     (t.f, t.a, t.pc, t.status, t.cycles)) =
      (0xF0, 0xFE, 0x0102, .ran, 2) := by
  decide

/-- V121 (R224): RES 7,[HL] -/
theorem test_V121 :
    (let t := run1 [0xCB, 0xBE] (({ base with h := 0xC0, l := 0x00 } : State).place 0xC000 [0xFF])
     (t.pc, t.peek 0xC000, t.status, t.cycles)) =
      (0x0102, 0x7F, .ran, 4) := by
  decide

/-- V122 (R225): SET 0,B -/
theorem test_V122 :
    (let t := run1 [0xCB, 0xC0] { base with f := 0x00, b := 0x00 }
     (t.f, t.b, t.pc, t.status, t.cycles)) =
      (0x00, 0x01, 0x0102, .ran, 2) := by
  decide

/-- V123 (R226): SET 7,[HL] -/
theorem test_V123 :
    (let t := run1 [0xCB, 0xFE] (({ base with h := 0xC0, l := 0x00 } : State).place 0xC000 [0x00])
     (t.pc, t.peek 0xC000, t.status, t.cycles)) =
      (0x0102, 0x80, .ran, 4) := by
  decide

/-- V125 (R240): JR -2: to itself -/
theorem test_V125 :
    (let t := run1 [0x18, 0xFE] base
     (t.pc, t.status, t.cycles)) =
      (0x0100, .ran, 3) := by
  decide

/-- V126 (R240): JR -128 -/
theorem test_V126 :
    (let t := run1 [0x18, 0x80] base
     (t.pc, t.status, t.cycles)) =
      (0x0082, .ran, 3) := by
  decide

/-- V127 (R241): JR NZ taken (Z = 0) -/
theorem test_V127 :
    (let t := run1 [0x20, 0x05] { base with f := 0x00 }
     (t.f, t.pc, t.status, t.cycles)) =
      (0x00, 0x0107, .ran, 3) := by
  decide

/-- V128 (R241): JR NZ not taken (Z = 1): operand still fetched -/
theorem test_V128 :
    (let t := run1 [0x20, 0x05] { base with f := 0x80 }
     (t.f, t.pc, t.status, t.cycles)) =
      (0x80, 0x0102, .ran, 2) := by
  decide

/-- V130 (R242): JP n16 -/
theorem test_V130 :
    (let t := run1 [0xC3, 0x00, 0x80] base
     (t.pc, t.status, t.cycles)) =
      (0x8000, .ran, 4) := by
  decide

/-- V132 (R243): JP Z not taken (the 3 of §9) -/
theorem test_V132 :
    (let t := run1 [0xCA, 0x00, 0x80] { base with f := 0x00 }
     (t.f, t.pc, t.status, t.cycles)) =
      (0x00, 0x0103, .ran, 3) := by
  decide

/-- V133 (R244): JP HL: no memory read -/
theorem test_V133 :
    (let t := run1 [0xE9] { base with h := 0x40, l := 0x00 }
     (t.pc, t.status, t.cycles)) =
      (0x4000, .ran, 1) := by
  decide

/-- V134 (R245): CALL: return address 0x0103, high byte at 0xFFFD -/
theorem test_V134 :
    (let t := run1 [0xCD, 0x34, 0x12] { base with sp := 0xFFFE }
     (t.sp, t.pc, t.peek 0xFFFC, t.peek 0xFFFD, t.status, t.cycles)) =
      (0xFFFC, 0x1234, 0x03, 0x01, .ran, 6) := by
  decide

/-- V136 (R246): CALL NC not taken: no push -/
theorem test_V136 :
    (let t := run1 [0xD4, 0x34, 0x12] { base with f := 0x10, sp := 0xFFFE }
     (t.f, t.pc, t.status, t.cycles)) =
      (0x10, 0x0103, .ran, 3) := by
  decide

/-- V137 (R247): RET -/
theorem test_V137 :
    (let t := run1 [0xC9] ((({ base with sp := 0xFFFC } : State).place 0xFFFC [0x03]).place 0xFFFD [0x01])
     (t.sp, t.pc, t.status, t.cycles)) =
      (0xFFFE, 0x0103, .ran, 4) := by
  decide

/-- V139 (R248): RET NZ not taken: 2 cycles, no read -/
theorem test_V139 :
    (let t := run1 [0xC0] ((({ base with f := 0x80, sp := 0xFFFC } : State).place 0xFFFC [0x03]).place 0xFFFD [0x01])
     (t.f, t.pc, t.status, t.cycles)) =
      (0x80, 0x0101, .ran, 2) := by
  decide

/-- V140 (R249): RETI: as RET, and IME = 1 at once -/
theorem test_V140 :
    (let t := run1 [0xD9] ((({ base with sp := 0xFFFC } : State).place 0xFFFC [0x03]).place 0xFFFD [0x01])
     (t.sp, t.pc, t.ime, t.status, t.cycles)) =
      (0xFFFE, 0x0103, true, .ran, 4) := by
  decide

/-- V142 (R250): RST 0x00 with SP = 0x0001: the push wraps -/
theorem test_V142 :
    (let t := run1 [0xC7] { base with sp := 0x0001 }
     (t.sp, t.pc, t.peek 0x0000, t.peek 0xFFFF, t.status, t.cycles)) =
      (0xFFFF, 0x0000, 0x01, 0x01, .ran, 4) := by
  decide

/-- V144 (R260): PUSH AF -/
theorem test_V144 :
    (let t := run1 [0xF5] { base with a := 0x12, f := 0xB0, sp := 0xFFFE }
     ((t.f, t.sp, t.pc, t.peek 0xFFFC), (t.peek 0xFFFD, t.status, t.cycles))) =
      ((0xB0, 0xFFFC, 0x0101, 0xB0), (0x12, .ran, 4)) := by
  decide

/-- V147 (R261): POP HL at SP = 0xFFFF: high byte from 0x0000 -/
theorem test_V147 :
    (let t := run1 [0xE1] ((({ base with sp := 0xFFFF } : State).place 0x0000 [0xAB]).place 0xFFFF [0xCD])
     (t.h, t.l, t.sp, t.pc, t.status, t.cycles)) =
      (0xAB, 0xCD, 0x0001, 0x0101, .ran, 3) := by
  decide

/-- V148 (R262): POP AF: low nibble of F masked -/
theorem test_V148 :
    (let t := run1 [0xF1] ((({ base with sp := 0xFFFC } : State).place 0xFFFC [0xFF]).place 0xFFFD [0x12])
     (t.a, t.f, t.sp, t.pc, t.status, t.cycles)) =
      (0x12, 0xF0, 0xFFFE, 0x0101, .ran, 3) := by
  decide

/-- V150 (R270): NOP -/
theorem test_V150 :
    (let t := run1 [0x00] { base with f := 0xF0 }
     (t.f, t.pc, t.status, t.cycles)) =
      (0xF0, 0x0101, .ran, 1) := by
  decide

/-- V152 (R272): STOP then two more steps: terminal -/
theorem test_V152 :
    (let t := run1 [0x10, 0x00, 0x3C] base
     (t.pc, t.run, t.status, t.cycles)) =
      (0x0102, .stopped, .stopped, 1) := by
  decide

/-- V153 (R273): DI -/
theorem test_V153 :
    (let t := run1 [0xF3] { base with ime := true }
     (t.pc, t.ime, t.status, t.cycles)) =
      (0x0101, false, .ran, 1) := by
  decide

/-- V157 (R276, R301): illegal opcode: fault, PC + 1, then terminal -/
theorem test_V157 :
    (let t := run1 [0xD3, 0x3C] { base with a := 0x07 }
     (t.pc, t.run, t.status, t.cycles)) =
      (0x0101, .faulted 0xD3, .faulted 0xD3, 0) := by
  decide

/-- V159 (R275): prefix and second byte in one step -/
theorem test_V159 :
    (let t := run1 [0xCB, 0x37] { base with a := 0xA5 }
     (t.a, t.pc, t.status, t.cycles)) =
      (0x5A, 0x0102, .ran, 2) := by
  decide

/-- V161 (R304, R307): priority: bits 2 and 4 pending, bit 2 wins, bit 4 stays -/
theorem test_V161 :
    (let t := run1 [0x00] ((({ base with ime := true } : State).place 0xFF0F [0x14]).place 0xFFFF [0x1F])
     ((t.sp, t.pc, t.ime, t.peek 0xFF0F), (t.peek 0xFFFC, t.peek 0xFFFD, t.status, t.cycles))) =
      ((0xFFFC, 0x0050, false, 0x10), (0x00, 0x01, .interrupt 2, 5)) := by
  decide

/-- V162 (R318): type 3: vector 0x0058 (INT_VECTOR default) -/
theorem test_V162 :
    (let t := run1 [0x00] ((({ base with ime := true } : State).place 0xFF0F [0x08]).place 0xFFFF [0x08])
     ((t.sp, t.pc, t.ime, t.peek 0xFF0F), (t.peek 0xFFFC, t.peek 0xFFFD, t.status, t.cycles))) =
      ((0xFFFC, 0x0058, false, 0x00), (0x00, 0x01, .interrupt 3, 5)) := by
  decide

/-- V165 (R304): bits 7 to 5 never pend -/
theorem test_V165 :
    (let t := run1 [0x00] ((({ base with ime := true } : State).place 0xFF0F [0xE0]).place 0xFFFF [0xFF])
     (t.pc, t.ime, t.peek 0xFF0F, t.status, t.cycles)) =
      (0x0101, true, 0xE0, .ran, 1) := by
  decide

/-- V172 (R307, R59): dispatch with SP = 0x0001: the push wraps, and the low byte of PC (0x00) lands on IE at 0xFFFF -/
theorem test_V172 :
    (let t := run1 [0x00] ((({ base with sp := 0x0001, ime := true } : State).place 0xFF0F [0x01]).place 0xFFFF [0x01])
     ((t.sp, t.pc, t.ime, t.peek 0x0000), (t.peek 0xFF0F, t.peek 0xFFFF, t.status, t.cycles))) =
      ((0xFFFF, 0x0040, false, 0x01), (0x00, 0x00, .interrupt 0, 5)) := by
  decide

/-! ### steps on other parameters: a platform with a ROM below 0x8000 and a port at 0xFF00 whose read counts -/

/-- Storage with a ROM that ignores writes (20_memory.md R58), and a port at 0xFF00 that answers how often it was read. -/
def romBus : Bus (Memory × Byte) where
  read p a := if a = 0xFF00 then (p.2, (p.1, p.2 + 1)) else (Memory.read p.1 a.toNat, p)
  write p a v := if a < 0x8000 then p else (Memory.write p.1 a.toNat v, p.2)
  peek p a := Memory.read p.1 a.toNat

/-- The platform with the program `bs` at 0x0100, the byte `fl` in IE and IF, and the port never read. -/
def rom (bs : List Byte) (fl : Byte) : Memory × Byte :=
  ((((State.reset.place 0x0100 bs).place 0xFFFF [fl]).place 0xFF0F [fl]).mem, 0)

/-- The parameters with that bus and the source's vector table (60_exceptions.md R318). -/
def romParams : Params (Memory × Byte) :=
  { bus := romBus, intVector := Config.intVectorOfSource, resetRegs := Config.resetRegs }

/-- What one step leaves of the core and the platform. -/
def after (s : State) (p : Memory × Byte) : State × Memory × Byte :=
  match stepOn romParams s p with
  | .next x => x
  | _ => (s, p)

/-- R58: a ROM ignores the store of LD [HL],A; the access is on the bus all the same. -/
theorem test_rom_ignores_a_store :
    (let x := after { base with a := 0x42, h := 0x40, l := 0x00 } (rom [0x77] 0)
     (romBus.peek x.2 0x4000, x.1.bus, x.1.pc, x.1.cycles)) =
      (0x00, [.read 0x0100, .write 0x4000 0x42], 0x0101, 2) := by
  decide

/-- R58: a read has the side effect of its device: INC [HL] on the port, which is read once. -/
theorem test_port_read_has_its_side_effect :
    (let x := after { base with h := 0xFF, l := 0x00 } (rom [0x34] 0)
     (x.2.2, romBus.peek x.2 0xFF00, x.1.bus, x.1.cycles)) =
      (1, 0x01, [.read 0x0100, .read 0xFF00, .write 0xFF00 0x01], 3) := by
  decide

/-- R318, C5: with the source's table, type 3 goes to 0x0056; type 2 goes to 0x0050 with either table. -/
theorem test_source_vector_of_type_3 :
    (let x := after { base with ime := true } (rom [0x00] 0x08)
     (x.1.pc, x.1.status, x.1.cycles, romBus.peek x.2 0xFF0F, romBus.peek x.2 0xFFFC, romBus.peek x.2 0xFFFD)) =
      (0x0056, .interrupt 3, 5, 0x00, 0x00, 0x01) ∧
    (let x := after { base with ime := true } (rom [0x00] 0x04)
     x.1.pc) = 0x0050 := by
  decide

/-! ### witnesses: for each statement with hypotheses, states and operands that meet them, clause by clause -/

theorem test_witness_DecodeEncodeRoundTrip :
    wellFormedWith .ld_BC_n16 [0x34, 0x12] = true ∧ wellFormedWith .bit_7_atHL [] = true ∧
      wellFormedWith .illegal_0xFD [] = true ∧ wellFormedWith .stop [0xFF] = true := by
  decide

theorem test_witness_DecodeReadsBackEveryByte :
    decode [0xCB, 0xFF] = .ok (.set_7_A, [], []) ∧ decode [0xFA, 0x00, 0xC0] = .ok (.ld_A_atN16, [0x00, 0xC0], []) ∧
      3 ≤ [0xFA, 0x00, 0xC0].length :=
  ⟨rfl, rfl, by decide⟩

theorem test_witness_ElevenBytesAreIllegal :
    decodeBase 0xD3 ∈ illegalRows ∧ decodeBase 0xFD ∈ illegalRows ∧ wellFormedWith .ld_B_n8 [0xD3] = true ∧
      decodeBase 0xD2 ∉ illegalRows := by
  decide

/-- NOP at the top of memory, the operand-free form; and an extended instruction whose second byte is at 0x0000. -/
theorem test_witness_StepRunsTheDecodedInstruction :
    (base.run = .fetching ∧ (base.ime = false ∨ base.pending = 0) ∧
      decode [base.peek base.pc, base.peek (base.pc + 1), base.peek (base.pc + 2)] = .ok (.nop, [], [0x00, 0x00])) ∧
    (let s := State.place { base with pc := 0xFFFF, ime := true } 0xFFFF [0xCB, 0x37]
     s.run = .fetching ∧ (s.ime = false ∨ s.pending = 0) ∧
      decode [s.peek s.pc, s.peek (s.pc + 1), s.peek (s.pc + 2)] = .ok (.swap_A, [], [0x00])) := by
  refine ⟨⟨rfl, .inl rfl, rfl⟩, rfl, .inr (by decide), rfl⟩

theorem base_inv : base.Inv := ⟨rfl, rfl, (fun h => by cases h), (fun h => by cases h)⟩

theorem test_witness_StepKeepsInvariant :
    base.Inv ∧ (∃ t, step base = .next t) ∧ (∃ t, envStep 0x1F base = .next t) :=
  ⟨base_inv, ⟨_, rfl⟩, ⟨_, rfl⟩⟩

theorem test_witness_ResetAndLoadedStatesHaveInvariant :
    Memory.wf [(0x0000, 0x3E), (0xFFFF, 0x01)] = true ∧ base.Inv ∧
      (∃ s, Snapshot.load ⟨1, 0, 0, 0, 0, 0xF0, 0, 0, 0x0100, 0xFFFE, [(0x0100, 0x3C)]⟩ = some s) :=
  ⟨rfl, base_inv, ⟨_, rfl⟩⟩

theorem test_witness_EveryInstructionCompletes :
    (Instr.call_n16 ∉ illegalRows) ∧ (Instr.illegal_0xED ∈ illegalRows) := by
  decide

theorem test_witness_StepFaultsExactlyWhenFaulted :
    ({ base with run := .faulted 0xD3 } : State).run = .faulted 0xD3 ∧ ∀ b, base.run ≠ .faulted b :=
  ⟨rfl, fun b h => by cases h⟩

theorem test_witness_OnlyDiEiRetiWriteIme :
    Instr.prefix_CB ∉ [Instr.di, .ei, .reti] ∧ (∃ t, exec .prefix_CB base = .next t) ∧
      Instr.push_AF ∉ [Instr.di, .ei, .reti] ∧ (∃ t, exec .push_AF base = .next t) :=
  ⟨by decide, ⟨_, rfl⟩, by decide, ⟨_, rfl⟩⟩

theorem test_witness_OnlyHaltStopIllegalLeaveFetching :
    base.run = .fetching ∧ (∃ t, exec .halt base = .next t ∧ t.run ≠ .fetching) ∧ (∃ t, exec .stop base = .next t) ∧
      (∃ t, exec .nop base = .next t ∧ t.run = .fetching) ∧
      (∃ t, exec .illegal_0xFD base = .next t ∧ Instr.illegal_0xFD ∈ illegalRows ∧ encode .illegal_0xFD = [0xFD]) :=
  ⟨rfl, ⟨_, rfl, fun h => by cases h⟩, ⟨_, rfl⟩, ⟨_, rfl, rfl⟩, ⟨_, rfl, by decide, rfl⟩⟩

theorem test_witness_OnlyListedInstructionsWriteSP :
    ∃ t, exec .push_BC base = .next t ∧ t.sp ≠ base.sp :=
  ⟨_, rfl, by decide⟩

/-- LD [HL],A on the platform with a ROM, and on plain storage with the same bytes and the same table. -/
theorem test_witness_StepReachesMemoryThroughTheBusAlone :
    (∃ t, step base = .next t) ∧
    (let s := { base with a := 0x42, h := 0xC0 }
     let p := rom [0x77] 0
     let Q : Params Memory := { defaultParams with intVector := Config.intVectorOfSource }
     ∃ t p', stepOn romParams s p = .next (t, p') ∧ Q.intVector = romParams.intVector ∧
      pendingIn (Q.bus.peek p.1) = pendingIn (romParams.bus.peek p) ∧
      answersOn Q.bus p.1 t.bus = answersOn romParams.bus p t.bus) :=
  ⟨⟨_, rfl⟩, _, _, rfl, rfl, rfl, rfl⟩

theorem test_witness_WriteChangesOneByte :
    Memory.wf [(0xFFFF, 0x01)] = true ∧
      (∀ x : Word, Memory.read [(0xFFFF, 0x01)] x.toNat = Memory.read [(0xFFFF, 0x01)] x.toNat) :=
  ⟨rfl, fun _ => rfl⟩

theorem test_witness_LoadPairs : base.peek base.pc = 0 := by decide

theorem test_witness_LogicOperations :
    AluOp.and ∈ [AluOp.and, .xor, .or] ∧ AluOp.xor ∈ [AluOp.and, .xor, .or] ∧ AluOp.or ∈ [AluOp.and, .xor, .or] := by
  decide

theorem test_witness_AccumulatorRotates :
    ∀ p ∈ [(Instr.rlca, RotOp.rlc), (.rrca, .rrc), (.rla, .rl), (.rra, .rr)],
      p ∈ [(Instr.rlca, RotOp.rlc), (.rrca, .rrc), (.rla, .rl), (.rra, .rr)] := by
  decide

/-- A state at the instruction `bs` with every interrupt type enabled and type 4 requested. -/
def requested (bs : List Byte) : State := ((base.place 0x0100 bs).place 0xFFFF [0x1F]).place 0xFF0F [0x10]

theorem test_witness_ReturnsPopTheReturnAddress :
    let s := requested [0xD9]
    s.run = .fetching ∧ (s.ime = false ∨ s.pending = 0) ∧ s.peek s.pc = 0xD9 ∧
      ∃ t, step s = .next t ∧ t.pending ≠ 0 :=
  ⟨rfl, .inl rfl, by decide, _, rfl, by decide⟩

/-- After EI: a plain instruction, DI, and an illegal opcode at PC. -/
theorem test_witness_NopDiEi :
    base.ime = false ∧ ({ base with ime := true } : State).ime = true ∧
    (let s : State := { base with imePending := true }
     s.run = .fetching ∧ s.ime = false ∧ s.imePending = true ∧ (∃ t, step s = .next t) ∧
      decodeBase (s.peek s.pc) ∉ Instr.di :: illegalRows) ∧
    (let s := State.place { base with imePending := true } 0x0100 [0xF3]
     s.run = .fetching ∧ s.ime = false ∧ s.imePending = true ∧ (∃ t, step s = .next t) ∧
      decodeBase (s.peek s.pc) = .di) ∧
    (let s := State.place { base with imePending := true } 0x0100 [0xFD]
     s.run = .fetching ∧ s.ime = false ∧ s.imePending = true ∧ (∃ t, step s = .next t) ∧
      decodeBase (s.peek s.pc) ∈ illegalRows) ∧
    (∃ t u, exec .di { requested [0x00] with ime := true } = .next t ∧ step t = .next u) :=
  ⟨rfl, rfl, ⟨rfl, rfl, rfl, ⟨_, rfl⟩, by decide⟩, ⟨rfl, rfl, rfl, ⟨_, rfl⟩, by decide⟩,
    ⟨rfl, rfl, rfl, ⟨_, rfl⟩, by decide⟩, ⟨_, _, rfl, rfl⟩⟩

/-- EI and then HALT, and EI and then DI, with a request waiting. -/
theorem test_witness_EnableDelayLetsOneInstructionRun :
    (let s := requested [0xFB, 0x76]
     s.run = .fetching ∧ s.ime = false ∧ s.imePending = false ∧ s.peek s.pc = 0xFB ∧
      ∃ t u, step s = .next t ∧ step t = .next u ∧
        decodeBase (t.peek t.pc) ∉ Instr.di :: .stop :: illegalRows ∧ u.pending ≠ 0) ∧
    (let s := requested [0xFB, 0xF3]
     s.run = .fetching ∧ s.ime = false ∧ s.imePending = false ∧ s.peek s.pc = 0xFB ∧
      ∃ t u v, step s = .next t ∧ step t = .next u ∧ decodeBase (t.peek t.pc) = .di ∧ step u = .next v) :=
  ⟨⟨rfl, rfl, rfl, by decide, _, _, rfl, rfl, by decide, by decide⟩,
    ⟨rfl, rfl, rfl, by decide, _, _, _, rfl, rfl, by decide, rfl⟩⟩

/-- Halted: only bits 7 to 5 shared; bit 4 shared, with IME 0 and 1. -/
theorem test_witness_HaltIdlesUntilAnEnabledRequest :
    (let s := ((({ base with run := .halted } : State).place 0xFFFF [0xFF]).place 0xFF0F [0xE0])
     s.run = .halted ∧ ∀ k < 5, ¬ ((s.peek 0xFFFF).getLsbD k ∧ (s.peek 0xFF0F).getLsbD k)) ∧
    (let s : State := { requested [0x3C] with run := .halted }
     s.run = .halted ∧ s.ime = false ∧ ∃ k < 5, (s.peek 0xFFFF).getLsbD k ∧ (s.peek 0xFF0F).getLsbD k) ∧
    (let s : State := { requested [0x3C] with run := .halted, ime := true }
     s.run = .halted ∧ s.ime = true ∧ ∃ k < 5, (s.peek 0xFFFF).getLsbD k ∧ (s.peek 0xFF0F).getLsbD k) := by
  refine ⟨⟨rfl, by decide⟩, ⟨rfl, rfl, 4, by decide, by decide⟩, ⟨rfl, rfl, 4, by decide, by decide⟩⟩

theorem test_witness_StopIsTerminal : ({ requested [] with run := .stopped, ime := true } : State).run = .stopped := rfl

theorem test_witness_IllegalOpcodeFaults :
    (0xFD : Byte) ∈ ([0xD3, 0xDB, 0xDD, 0xE3, 0xE4, 0xEB, 0xEC, 0xED, 0xF4, 0xFC, 0xFD] : List Byte) ∧
    (let s := base.place 0x0100 [0xFD]
     s.run = .fetching ∧ (s.ime = false ∨ s.pending = 0) ∧ s.peek s.pc = 0xFD) ∧
    ({ base with run := .faulted 0xFD } : State).run = .faulted 0xFD :=
  ⟨by decide, ⟨rfl, .inl rfl, by decide⟩, rfl⟩

theorem test_witness_PrefixRunsTheExtendedInstruction : (base.place 0x0100 [0xCB]).run = .fetching := rfl

/-- Type 4 alone, fetching; type 0 beside type 4, halted; type 1 beside types 3 and 4 on a platform. -/
theorem test_witness_InterruptDispatch :
    (let s : State := { requested [0xD3] with ime := true }
     (s.run = .fetching ∨ s.run = .halted) ∧ s.ime = true ∧
      ((s.peek 0xFFFF).getLsbD 4 = true ∧ (s.peek 0xFF0F).getLsbD 4 = true) ∧
      (∀ j : Fin 5, j < 4 → ¬ ((s.peek 0xFFFF).getLsbD j.val = true ∧ (s.peek 0xFF0F).getLsbD j.val = true))) ∧
    (let s := State.place { requested [0x00] with ime := true, run := .halted } 0xFF0F [0x11]
     (s.run = .fetching ∨ s.run = .halted) ∧ s.ime = true ∧
      ((s.peek 0xFFFF).getLsbD 0 = true ∧ (s.peek 0xFF0F).getLsbD 0 = true) ∧
      (∀ j : Fin 5, j < 0 → ¬ ((s.peek 0xFFFF).getLsbD j.val = true ∧ (s.peek 0xFF0F).getLsbD j.val = true))) ∧
    (let s : State := { base with ime := true }
     let peek := romParams.bus.peek (rom [0x00] 0x1A)
     (s.run = .fetching ∨ s.run = .halted) ∧ s.ime = true ∧
      ((peek 0xFFFF).getLsbD 1 = true ∧ (peek 0xFF0F).getLsbD 1 = true) ∧
      (∀ j : Fin 5, j < 1 → ¬ ((peek 0xFFFF).getLsbD j.val = true ∧ (peek 0xFF0F).getLsbD j.val = true))) :=
  ⟨⟨.inl rfl, rfl, by decide, by decide⟩, ⟨.inr rfl, rfl, by decide, by decide⟩, .inl rfl, rfl, by decide, by decide⟩

theorem test_witness_InterruptTakenExactlyWhen :
    base.Inv ∧ (∃ t, step base = .next t ∧ t.status = .ran) ∧
    (∃ t i, step { requested [0x00] with ime := true } = .next t ∧ t.status = .interrupt i) :=
  ⟨base_inv, ⟨_, rfl, rfl⟩, ⟨_, 4, rfl, rfl⟩⟩

end Sys2Proof.Tests
end

section
/-! SUPPORT. A step reaches memory through the bus alone (00_scope.md R3, 20_memory.md R58). The idea: once the pending
set is sampled, a step is one program of bus accesses or a fault, and which of the two it is, and which program, depends
on the core, the sampled set and the vector table alone (`stepProg`). What holds of every program on every bus
(Laws/Bus.lean) then holds of every step. -/

namespace Sys2Proof.Machine

variable {α σ τ : Type}

theorem BusProg.All.map {γ : Type} {Q : γ → Prop} {g : α → γ} {R : BusProg α} (h : R.All fun x => Q (g x)) :
    (R.map g).All Q := by
  induction R with
  | done x => exact h
  | read a k ih => exact fun v => ih v (h v)
  | write a v k ih => exact ih h

/-! ### what a program leaves -/

/-- The core and the platform that a program leaves on a platform, with no trace before it. -/
def BusProg.leavesOn (β : Bus σ) (p : σ) (R : BusProg State) : State × σ :=
  ({ R.result β p with bus := R.trace β p }, performOn β p (R.trace β p))

/-- The state that a program leaves on the default bus, from the memory `m` and with no trace before it. -/
def BusProg.leavesFlat (m : Memory) (R : BusProg State) : State :=
  { R.result flatBus m with mem := replay m (R.trace flatBus m), bus := R.trace flatBus m }

theorem consumeImePending_with_bus (s : State) (b : Bool) (tr : List BusAccess) :
    State.consumeImePending { s with bus := tr } b = { s.consumeImePending b with bus := tr } :=
  (consumeImePending_with s b s.mem tr).trans (by simp only [consumeImePending_mem])

theorem BusProg.leavesOn_consumeImePending (β : Bus σ) (p : σ) (R : BusProg State) (b : Bool) :
    (R.map (·.consumeImePending b)).leavesOn β p =
      ((R.leavesOn β p).1.consumeImePending b, (R.leavesOn β p).2) := by
  rw [leavesOn, result_map, trace_map]
  exact congrArg (·, _) (consumeImePending_with_bus _ b _).symm

theorem BusProg.leavesFlat_consumeImePending (m : Memory) (R : BusProg State) (b : Bool) :
    (R.map (·.consumeImePending b)).leavesFlat m = (R.leavesFlat m).consumeImePending b := by
  rw [leavesFlat, result_map, trace_map]
  exact (consumeImePending_with _ b _ _).symm

/-- The default bus as a platform holds the memory that the machine keeps in its state. -/
theorem BusProg.leavesOn_flatBus {m : Memory} {R : BusProg State} (h : R.All fun t => t.mem = m) :
    R.leavesOn flatBus m = ({ R.leavesFlat m with mem := m }, (R.leavesFlat m).mem) := by
  have hm : (R.result flatBus m).mem = m := h.result flatBus m
  simp only [leavesOn, leavesFlat, performOn_flatBus, hm]

/-- The answers decide what a program leaves: on a platform that answers the reads of its trace alike it leaves the same
core, and the platform that the same trace makes. -/
theorem BusProg.leavesOn_of_same_answers {β : Bus σ} {γ : Bus τ} {p : σ} {q : τ} {R : BusProg State}
    (h : answersOn γ q (R.trace β p) = answersOn β p (R.trace β p)) :
    R.leavesOn γ q = ((R.leavesOn β p).1, performOn γ q (R.trace β p)) := by
  obtain ⟨htrace, hresult⟩ := R.same_answers β γ p q h
  rw [leavesOn, htrace, hresult, leavesOn]

/-- On the default bus an opcode is fetched and its row executed as one program does it. -/
theorem exec_fetched (s : State) :
    exec (decodeBase (s.peek s.pc)) { s with pc := s.pc + 1, bus := [.read s.pc] } =
      .next ((executeProg s).leavesFlat s.mem) := by
  have halike : (formProg (baseForm (s.peek s.pc)) { s with pc := s.pc + 1, bus := [.read s.pc] }).Alike
      (formProg (baseForm (s.peek s.pc)) { s with pc := s.pc + 1 }) :=
    formProg_alike _ { s with pc := s.pc + 1 } s.mem [.read s.pc]
  rw [decodeBase, exec_formRow, onFlat_eq, halike.trace, State.eq_of_bare (halike.result _ _)]
  rfl

/-! ### a step as one program -/

/-- The step with the pending set `pend` sampled, as one program of bus accesses; a faulted core has none. -/
def stepProg (vec : Fin 5 → Word) (s : State) (pend : Byte) : Except Fault (BusProg State) :=
  match State.action { s with bus := [] } pend with
  | .idle st n => .ok (.done (State.report { s with bus := [] } st n))
  | .fault b => .error (.illegalOpcode b)
  | .dispatch i => .ok (dispatch vec i { s with run := .fetching, bus := [] })
  | .execute =>
    .ok ((executeProg { s with run := .fetching, bus := [] }).map (·.consumeImePending s.imePending))

/-- The outcome of a step that is the program or the fault given; `f` tells what a program leaves. -/
def stepOutcome (f : BusProg State → α) : Except Fault (BusProg State) → Host.Outcome α Fault Refusal
  | .ok R => .next (f R)
  | .error r => .fault r

theorem stepOutcome_next {f : BusProg State → α} {e : Except Fault (BusProg State)} {x : α}
    (h : stepOutcome f e = .next x) : ∃ R, e = .ok R ∧ f R = x := by
  cases e with
  | ok R => exact ⟨R, rfl, Host.Outcome.next.inj h⟩
  | error r => cases h

/-- On a platform a step does what its program does there. -/
theorem stepOn_eq_stepOutcome (P : Params σ) (s : State) (p : σ) :
    stepOn P s p = stepOutcome (BusProg.leavesOn P.bus p) (stepProg P.intVector s (pendingIn (P.bus.peek p))) := by
  rw [stepOn_action, stepProg]
  cases State.action { s with bus := [] } (pendingIn (P.bus.peek p)) with
  | idle st n => rfl
  | fault b => rfl
  | dispatch i => exact congrArg Host.Outcome.next (runOn_eq P.bus _ _ p rfl)
  | execute =>
    dsimp only [stepOutcome]
    rw [runOn_eq P.bus _ _ p rfl, BusProg.leavesOn_consumeImePending]
    rfl

/-- The step of the machine does what its program does on the default bus. -/
theorem stepWith_eq_stepOutcome (vec : Fin 5 → Word) (s : State) :
    stepWith vec exec s = stepOutcome (BusProg.leavesFlat s.mem) (stepProg vec s s.pending) := by
  rw [stepWith_action, stepProg]
  cases State.action { s with bus := [] } s.pending with
  | idle st n => rfl
  | fault b => rfl
  | dispatch i => exact congrArg Host.Outcome.next (onFlat_eq _ _)
  | execute =>
    dsimp only [stepOutcome]
    rw [BusProg.leavesFlat_consumeImePending]
    exact congrArg (finishInstruction s.imePending) (exec_fetched { s with run := .fetching, bus := [] })

/-- The program of a step leaves the field `mem` of the core alone. -/
theorem stepProg_mem {vec : Fin 5 → Word} {s : State} {pend : Byte} {R : BusProg State}
    (h : stepProg vec s pend = .ok R) : R.All fun t => t.mem = s.mem := by
  rw [stepProg] at h
  cases hact : State.action { s with bus := [] } pend with
  | idle st n =>
    rw [hact] at h
    cases h
    rfl
  | fault b =>
    rw [hact] at h
    cases h
  | dispatch i =>
    rw [hact] at h
    cases h
    exact fun _ => rfl
  | execute =>
    rw [hact] at h
    cases h
    refine BusProg.All.map ((executeProg_mem _).imp fun t ht => ?_)
    rw [consumeImePending_mem, ht]

/-! ### the statement -/

/-- A step changes memory by exactly the writes of its trace. -/
theorem step_mem_eq_replay {s t : State} (h : step s = .next t) : t.mem = replay s.mem t.bus := by
  obtain ⟨tr, hbus, hmem⟩ := stepWith_traced h
  rw [hmem, hbus, List.nil_append]

/-- A step on a platform changes it by exactly the accesses of its trace, and leaves the field `mem` alone. -/
theorem stepOn_performs {P : Params σ} {s t : State} {p q : σ} (h : stepOn P s p = .next (t, q)) :
    q = performOn P.bus p t.bus ∧ t.mem = s.mem := by
  rw [stepOn_eq_stepOutcome] at h
  obtain ⟨R, hR, hleft⟩ := stepOutcome_next h
  cases hleft
  exact ⟨rfl, (stepProg_mem hR).result P.bus p⟩

/-- The core sees no more of a platform than the pending set at the start and the answers to its reads. -/
theorem stepOn_of_same_answers {P : Params σ} {Q : Params τ} {s t : State} {p p' : σ} {q : τ}
    (h : stepOn P s p = .next (t, p')) (hvec : Q.intVector = P.intVector)
    (hpend : pendingIn (Q.bus.peek q) = pendingIn (P.bus.peek p))
    (hans : answersOn Q.bus q t.bus = answersOn P.bus p t.bus) :
    stepOn Q s q = .next (t, performOn Q.bus q t.bus) := by
  rw [stepOn_eq_stepOutcome] at h
  obtain ⟨R, hR, hleft⟩ := stepOutcome_next h
  cases hleft
  rw [stepOn_eq_stepOutcome, hvec, hpend, hR]
  exact congrArg Host.Outcome.next (BusProg.leavesOn_of_same_answers hans)

/-- On the default parameters, with its memory as the platform, the core does what the step of the machine does. -/
theorem stepOn_defaultParams (s : State) :
    stepOn defaultParams s s.mem =
      match step s with
      | .next t => .next ({ t with mem := s.mem }, t.mem)
      | .fault r => .fault r
      | .refused r => .refused r := by
  have hon : stepOn defaultParams s s.mem =
      stepOutcome (BusProg.leavesOn flatBus s.mem) (stepProg Config.intVector s s.pending) :=
    stepOn_eq_stepOutcome defaultParams s s.mem
  rw [hon, step, stepWith_eq_stepOutcome]
  cases hR : stepProg Config.intVector s s.pending with
  | ok R => exact congrArg Host.Outcome.next (BusProg.leavesOn_flatBus (stepProg_mem hR))
  | error r => rfl

/-- Settles O13: a step is one program of bus accesses, fixed by the core, the sampled pending set and the vectors. -/
theorem stepReachesMemoryThroughTheBusAlone : Obligations.StepReachesMemoryThroughTheBusAlone :=
  ⟨fun _ _ h => step_mem_eq_replay h, fun _ _ _ _ _ _ h => stepOn_performs h,
    fun _ _ _ _ _ _ _ _ _ h hvec hpend hans => stepOn_of_same_answers h hvec hpend hans, stepOn_defaultParams⟩

end Sys2Proof.Machine
end

section
/-! SUPPORT. The registers of the state (10_state.md sections 2 to 4 and 6): the pairs are views of their halves and F
keeps a zero low nibble; which forms write SP; which forms leave the run state `Fetching`. Every instruction is the row
of its form (Laws/Exec.lean), so a claim about all instructions is a case split on the form. -/

namespace Sys2Proof.Machine

/-! ### pairs and flags -/

/-- Each pair reads as its two registers (10_state.md R21). -/
theorem pairs_eq_append (s : State) :
    s.bc = s.b ++ s.c ∧ s.de = s.d ++ s.e ∧ s.hl = s.h ++ s.l ∧ s.af = s.a ++ (s.f &&& 0xF0) :=
  ⟨cat_eq_append _ _, cat_eq_append _ _, cat_eq_append _ _, cat_eq_append _ _⟩

/-- A write of a pair writes its two halves (10_state.md R21). -/
theorem setPairs_eq_extract (s : State) (w : Word) :
    s.setBC w = { s with b := w.extractLsb' 8 8, c := w.extractLsb' 0 8 } ∧
    s.setDE w = { s with d := w.extractLsb' 8 8, e := w.extractLsb' 0 8 } ∧
    s.setHL w = { s with h := w.extractLsb' 8 8, l := w.extractLsb' 0 8 } ∧
    s.setAF w = { s with a := w.extractLsb' 8 8, f := w.extractLsb' 0 8 &&& 0xF0 } := by
  rw [← hi_eq_extract, ← lo_eq_extract]
  exact ⟨rfl, rfl, rfl, rfl⟩

/-- Settles O15: a pair is the concatenation of its halves, and every write of F leaves its low nibble zero. -/
theorem registerViewsAndFlagWrites : Obligations.RegisterViewsAndFlagWrites :=
  ⟨fun s w => ⟨pairs_eq_append s, setPairs_eq_extract s w⟩,
    fun s z n h c _ => ⟨flags_setFlags s z n h c, setFlags_low s z n h c, rfl, rfl, masked_low s.f⟩⟩

/-! ### the run state -/

/-- Only HALT, STOP and the illegal forms leave `Fetching` (10_state.md R33). -/
theorem runAfter_ne_fetching_iff (f : Form) :
    runAfter f .fetching ≠ .fetching ↔ f = .halt ∨ f = .stop ∨ ∃ x, f = .illegal x := by
  cases f <;> simp [runAfter]

/-- An instruction is the row of a form exactly when that is its form; `h` holds by evaluation for a given form. -/
theorem eq_row_iff {f : Form} (h : formOf f.row = f) (i : Instr) : i = f.row ↔ formOf i = f :=
  ⟨fun hi => hi ▸ h, fun hi => hi ▸ (row_formOf i).symm⟩

/-- The opcode byte of an illegal row is the byte of its form. -/
theorem encode_of_formOf_illegal {i : Instr} {x : IllegalOp} (h : formOf i = .illegal x) : encode i = [x.byte] := by
  rw [← row_formOf i, h]
  cases x <;> rfl

/-- Settles O11: the run state after an instruction is `runAfter` of its form. -/
theorem onlyHaltStopIllegalLeaveFetching : Obligations.OnlyHaltStopIllegalLeaveFetching := by
  intro i s t hrun hexec
  obtain ⟨ht, -⟩ := exec_run hexec
  rw [hrun] at ht
  have hhalt : i = .halt ↔ formOf i = .halt := eq_row_iff (f := .halt) rfl i
  have hstop : i = .stop ↔ formOf i = .stop := eq_row_iff (f := .stop) rfl i
  refine ⟨?_, fun hi => ?_, fun hi => ?_, fun b hi hb => ?_⟩
  · rw [ht, runAfter_ne_fetching_iff, hhalt, hstop, mem_illegalRows_iff]
  · rw [ht, hhalt.1 hi]
    rfl
  · rw [ht, hstop.1 hi]
    rfl
  · obtain ⟨x, hx⟩ := (mem_illegalRows_iff i).1 hi
    obtain rfl : x.byte = b := List.singleton_inj.1 ((encode_of_formOf_illegal hx).symm.trans hb)
    rw [ht, hx]
    rfl

/-! ### the stack pointer -/

/-- The forms that write SP (10_state.md R24). -/
def WritesSP : Form → Prop
  | .ldR16Imm r | .incR16 r | .decR16 r => r = .sp
  | .ldSPHL | .addSPe8 | .push _ | .pop _ | .call | .callCond _ | .ret | .retCond _ | .reti | .rst _ => True
  | _ => False

@[simp] theorem setR16_sp_of_ne (s : State) {r : R16} (w : Word) (h : r ≠ .sp) : (s.setR16 r w).sp = s.sp :=
  setR16_r16_of_ne s r .sp w h.symm

@[simp] theorem alu_sp (s : State) (op : AluOp) (b : Byte) : (s.alu op b).sp = s.sp := by
  cases op <;> rfl

theorem extProg_sp (e : ExtForm) (s : State) : (extProg e s).All fun t => t.sp = s.sp := by
  cases e with
  | rotReg op r => exact setReg_sp s r _
  | resReg i r => exact setReg_sp s r _
  | setBitReg i r => exact setReg_sp s r _
  | bitReg i r => exact rfl
  | rotAtHL | bitAtHL | resAtHL | setBitAtHL => exact fun _ => rfl

/-- An effect leaves SP alone unless its form is listed. A case is a function of the bytes the effect reads. -/
theorem formProg_sp (f : Form) (s : State) (hf : ¬ WritesSP f) : (formProg f s).All fun t => t.sp = s.sp := by
  cases f with
  | ext e => exact extProg_sp e s
  | prefixCB => exact fun v => extProg_sp (extForm v) { s with run := .fetching, pc := s.pc + 1 }
  | jrCond cc => exact fun _ => all_ite _ _ _ rfl rfl
  | jpCond cc => exact fun _ _ => all_ite _ _ _ rfl rfl
  | ldRegReg dst src => exact setReg_sp s dst _
  | ldRegAtHL dst => exact fun v => setReg_sp s dst v
  | ldRegImm dst => exact fun v => setReg_sp _ dst v
  | incReg r => exact setReg_sp s r _
  | decReg r => exact setReg_sp s r _
  | ldMemA m => exact r16mem_sp s m
  | ldAMem m => exact fun _ => r16mem_sp s m
  | aluReg op r => exact alu_sp s op _
  | aluAtHL op => exact fun v => alu_sp s op v
  | aluImm op => exact fun v => alu_sp _ op v
  | ldR16Imm r => exact fun _ _ => setR16_sp_of_ne _ _ hf
  | incR16 r => exact setR16_sp_of_ne s _ hf
  | decR16 r => exact setR16_sp_of_ne s _ hf
  | ldSPHL | addSPe8 | push | pop | call | callCond | ret | retCond | reti | rst => exact absurd trivial hf
  | nop | addHLR16 | rlca | rrca | rla | rra | daa | cpl | scf | ccf | ldAtHLReg | halt | jpHL | ldhAtCA | di | ei
  | illegal => exact rfl
  | stop | jr | incAtHL | decAtHL | ldAtHLImm | ldhAtImmA | ldHLSPe8 | ldhAAtC => exact fun _ => rfl
  | ldAtImm16SP | ldhAAtImm | ldAtImm16A | jp => exact fun _ _ => rfl
  | ldAAtImm16 => exact fun _ _ _ => rfl

theorem exec_sp {i : Instr} {s t : State} (h : exec i s = .next t) (hi : ¬ WritesSP (formOf i)) : t.sp = s.sp :=
  exec_all h (formProg_sp _ s hi) fun _ _ _ hq => hq

/-- Settles O12: an instruction that changes SP is the row of a form that writes SP, and R24 lists these rows. -/
theorem onlyListedInstructionsWriteSP : Obligations.OnlyListedInstructionsWriteSP := by
  intro i s t hexec hsp
  have hw : WritesSP (formOf i) := Classical.byContradiction fun h => hsp (exec_sp hexec h)
  rw [← row_formOf i]
  cases hf : formOf i with rw [hf] at hw
  | ldR16Imm r | incR16 r | decR16 r =>
    obtain rfl : r = .sp := hw
    exact .inl (by decide)
  | ldSPHL | addSPe8 | reti | ret | call => exact .inl (by decide)
  | push r => exact .inr (.inl ⟨r, .inl rfl⟩)
  | pop r => exact .inr (.inl ⟨r, .inr rfl⟩)
  | callCond cc => exact .inr (.inr (.inl ⟨cc, .inl rfl⟩))
  | retCond cc => exact .inr (.inr (.inl ⟨cc, .inr rfl⟩))
  | rst n => exact .inr (.inr (.inr ⟨n, rfl⟩))
  | _ => exact hw.elim

end Sys2Proof.Machine
end

section
/-! SUPPORT. Memory (20_memory.md): what one bus access does to the state, and what an outside request does to IF
(60_exceptions.md R303), both from the law of a write to one byte (Laws/Ops.lean). -/

namespace Sys2Proof.Machine

/-- Settles O14: the law of a write on the default bus, and canonical lists that read alike are equal (Laws/Memory.lean). -/
theorem writeChangesOneByte : Obligations.WriteChangesOneByte :=
  ⟨peek_memWrite, memWrite_eq, memRead_eq, fun s a v hs => Memory.wf_write_word s.mem a v hs, Memory.ext_of_wf⟩

/-- A request or-s the mask into the byte IF and leaves every other byte (20_memory.md R66). -/
theorem peek_requestInterrupts (s : State) (m : BitVec 5) (x : Word) :
    (s.requestInterrupts m).peek x = if x = addrIF then s.peek addrIF ||| BitVec.ofNat 8 m.toNat else s.peek x :=
  peek_written s (requestInterrupts_mem s m) x

/-- A mask of the five types, as a byte, has the mask's bits and zeros above them. -/
theorem getLsbD_maskByte (m : BitVec 5) {k : Nat} (hk : k < 8) : (BitVec.ofNat 8 m.toNat).getLsbD k = m.getLsbD k := by
  rw [BitVec.getLsbD_ofNat, BitVec.testBit_toNat, decide_eq_true hk, Bool.true_and]

/-- Settles O59: IF is or-ed with the mask, whose bits 7 to 5 are zero, and no other byte is written. -/
theorem requestsSetOnlyInterruptFlags : Obligations.RequestsSetOnlyInterruptFlags := by
  refine fun s m => ⟨fun k hk => ?_, fun x hx => ?_, rfl⟩
  · have hif : (s.requestInterrupts m).peek 0xFF0F = s.peek 0xFF0F ||| BitVec.ofNat 8 m.toNat :=
      (peek_requestInterrupts s m _).trans (if_pos rfl)
    rw [hif, BitVec.getLsbD_or, getLsbD_maskByte m hk]
  · exact (peek_requestInterrupts s m x).trans (if_neg hx)

end Sys2Proof.Machine
end

section
/-! SUPPORT. The bytes of an instruction (30_encoding.md R80, R84 to R91): the encoder reads back what the two decoders
answer, so the opcode bytes of an instruction are those the decoders read as it, its operand bytes are passed over unread,
and the illegal bytes are the opcodes of the illegal rows. -/

namespace Sys2Proof.Machine

/-! ### decoding what was encoded -/

/-- The encoder reads back the base table: a check of its 256 bytes. -/
@[simp] theorem encode_decodeBase : ∀ b : Byte, encode (decodeBase b) = [b] := by decide +kernel

/-- The encoder reads back the extended table, whose rows have no operand bytes: a check of its 256 bytes. -/
theorem encode_decodeExt : ∀ b : Byte, encode (decodeExt b) = [0xCB, b] ∧ operandBytes (decodeExt b) = 0 := by
  decide +kernel

/-- The opcode bytes of every instruction are the bytes that the decoders read as it. -/
theorem encode_eq_opcodeBytes (i : Instr) : Laws.OpcodeBytes.Statement i := by
  have hrow := row_formOf i
  unfold formOf at hrow
  split at hrow
  case h_1 b hb => exact .inl ⟨b, hb, hrow⟩
  case h_2 b hb =>
    have hext : decodeExt b = i := hrow
    exact .inr ⟨b, hext ▸ (encode_decodeExt b).1, hext⟩
  case h_3 =>
    obtain rfl : Instr.nop = i := hrow
    exact Laws.OpcodeBytes.nop

/-- A byte of the base table is read with its operand bytes, whatever they are, and what follows is the rest. -/
theorem decode_base {b : Byte} {operand : List Byte} (hb : decodeBase b ≠ .prefix_CB)
    (hlen : operand.length = operandBytes (decodeBase b)) (rest : List Byte) :
    decode (b :: (operand ++ rest)) = .ok (decodeBase b, operand, rest) := by
  have hlong : ¬ (operand ++ rest).length < operandBytes (decodeBase b) := by
    rw [List.length_append]
    omega
  refine (if_neg hb).trans ((if_neg hlong).trans ?_)
  rw [← hlen, List.take_left, List.drop_left]

/-- A whole instruction is read back from its opcode bytes and operand bytes, and the operand bytes decide nothing. -/
theorem decode_encode_append {i : Instr} {operand : List Byte} (h : wellFormedWith i operand = true) (rest : List Byte) :
    decode (encode i ++ operand ++ rest) = .ok (i, operand, rest) := by
  obtain ⟨hwhole, hlen⟩ : wellFormed i = true ∧ operand.length = operandBytes i := by
    simpa [wellFormedWith] using h
  obtain ⟨b, hb, rfl⟩ | ⟨b, hb, rfl⟩ := encode_eq_opcodeBytes i
  · have hprefix : decodeBase b ≠ .prefix_CB := fun e => by simp [e, wellFormed] at hwhole
    rw [hb]
    exact decode_base hprefix hlen rest
  · obtain rfl : operand = [] := List.length_eq_zero_iff.1 (hlen.trans (encode_decodeExt b).2)
    rw [hb]
    rfl

/-! ### the illegal bytes -/

theorem formOf_decodeBase_byte (x : IllegalOp) : formOf (decodeBase x.byte) = .illegal x := by
  cases x <;> rfl

/-- A byte decodes to an illegal row exactly when it is the byte of an illegal opcode. -/
theorem decodeBase_mem_illegalRows_iff (b : Byte) : decodeBase b ∈ illegalRows ↔ ∃ x : IllegalOp, x.byte = b := by
  rw [mem_illegalRows_iff]
  constructor
  · rintro ⟨x, hx⟩
    have hbytes : [x.byte] = [b] := (encode_of_formOf_illegal hx).symm.trans (encode_decodeBase b)
    exact ⟨x, List.singleton_inj.1 hbytes⟩
  · rintro ⟨x, rfl⟩
    exact ⟨x, formOf_decodeBase_byte x⟩

/-- The eleven bytes, as a list (30_encoding.md R89). -/
theorem exists_illegalOp_byte_iff (b : Byte) :
    (∃ x : IllegalOp, x.byte = b) ↔
      b ∈ [0xD3, 0xDB, 0xDD, 0xE3, 0xE4, 0xEB, 0xEC, 0xED, 0xF4, 0xFC, 0xFD] := by
  constructor
  · rintro ⟨x, rfl⟩
    cases x <;> decide
  · intro h
    have hmap : b ∈ [IllegalOp.xD3, .xDB, .xDD, .xE3, .xE4, .xEB, .xEC, .xED, .xF4, .xFC, .xFD].map IllegalOp.byte := h
    obtain ⟨x, -, hx⟩ := List.mem_map.1 hmap
    exact ⟨x, hx⟩

/-- The eleven bytes by their fields (30_encoding.md R81, R89). -/
theorem mem_illegalBytes_iff_fields : ∀ b : Byte,
    b ∈ [0xD3, 0xDB, 0xDD, 0xE3, 0xE4, 0xEB, 0xEC, 0xED, 0xF4, 0xFC, 0xFD] ↔
      fieldX b = 3 ∧ ((fieldZ b = 3 ∧ fieldY b ∈ [2, 3, 4, 5]) ∨ (fieldZ b = 4 ∧ fieldY b ∈ [4, 5, 6, 7]) ∨
        (fieldZ b = 5 ∧ fieldQ b = 1 ∧ fieldP b ∈ [1, 2, 3])) := by
  decide +kernel

/-- The meaning of an illegal byte is the exception with that byte, and nothing else changes (60_exceptions.md R301). -/
theorem exec_illegal_byte (x : IllegalOp) (s : State) :
    exec (decodeBase x.byte) s = .next (s.raiseIllegalOpcode x.byte) := by
  rw [exec_eq, formOf_decodeBase_byte]
  rfl

/-- Settles O4: the illegal rows are the rows of eleven bytes, and a whole instruction is read by its opcode alone. -/
theorem elevenBytesAreIllegal : Obligations.ElevenBytesAreIllegal := by
  have hlist (b : Byte) := (decodeBase_mem_illegalRows_iff b).trans (exists_illegalOp_byte_iff b)
  refine ⟨hlist, fun b => (hlist b).trans (mem_illegalBytes_iff_fields b), fun b => ?_, fun b s hb => ?_,
    fun i n operand rest h => decode_encode_append h rest⟩
  · obtain ⟨-, -, -, -, -, -, hnot⟩ := decodeExt_ordinary b
    exact hnot
  · obtain ⟨x, rfl⟩ := (decodeBase_mem_illegalRows_iff b).1 hb
    exact exec_illegal_byte x s

end Sys2Proof.Machine
end

section
/-! SUPPORT. The 8-bit loads (40_load8.md R110 to R122). Three kinds cover them: a general register is written, a byte
of memory is written, or A is loaded from an address. What `exec` answers is said once per kind, of the state `u` in
which the operands are fetched and the address is formed; an obligation then names the effect of its form
(Laws/Forms.lean). -/

namespace Sys2Proof.Machine

/-! ### the three kinds of loads -/

/-- `exec` on the row of a form answers the state that its effect is known to leave. -/
theorem exec_row_of_leaves (f : Form) {s t : State} (h : onFlat (formProg f) s = t) : exec f.row s = .next t :=
  (exec_formRow f s).trans (congrArg Host.Outcome.next h)

/-- A write of a general register changes no more than the general registers. -/
theorem setReg_eq_withRegsOf (s : State) (r : Reg) (v : Byte) : s.setReg r v = s.withRegsOf (s.setReg r v) := by
  cases r <;> rfl

/-- A form that ends by writing `v` to the register `dst` (40_load8.md R110, R111, R113). -/
theorem exec_writesReg (f : Form) {s u : State} {dst : Reg} {v : Byte} {n : Nat}
    (heffect : onFlat (formProg f) s = (u.setReg dst v).ran n) (hregs : ∀ r, u.reg r = s.reg r) :
    ∃ t, exec f.row s = .next t ∧
      t.reg dst = v ∧ (∀ r, r ≠ dst → t.reg r = s.reg r) ∧ t = (u.withRegsOf t).reported n := by
  refine ⟨_, exec_row_of_leaves f heffect, ?_, fun r hr => ?_, ?_⟩
  · rw [reg_ran, reg_setReg, if_pos rfl]
  · rw [reg_ran, reg_setReg, if_neg hr, hregs]
  · exact congrArg (State.ran · n) (setReg_eq_withRegsOf u dst v)

/-- A form that ends by storing `v` at `a` (40_load8.md R112, R114, R115, R117, R119, R121). -/
theorem exec_storesByte (f : Form) {s u : State} {a : Word} {v : Byte} {n : Nat} {tr : List BusAccess}
    (heffect : onFlat (formProg f) s = (u.memWrite a v).ran n) (hmem : u.mem = s.mem)
    (htrace : u.bus ++ [.write a v] = tr) :
    ∃ t, exec f.row s = .next t ∧ (∀ x, t.peek x = if x = a then v else s.peek x) ∧
      t = { u.reported n with mem := t.mem, bus := tr } := by
  refine ⟨_, exec_row_of_leaves f heffect, peek_written s ?_, ?_⟩
  · rw [ran_mem, memWrite_mem, hmem]
  · rw [← htrace]
    rfl

/-- A form that ends by loading A from `a` (40_load8.md R116, R118, R120, R122). -/
theorem exec_loadsA (f : Form) {s u : State} {a : Word} {n : Nat} {tr : List BusAccess}
    (heffect : onFlat (formProg f) s = State.ran { u.hasRead a with a := s.peek a } n)
    (htrace : u.bus ++ [.read a] = tr) :
    exec f.row s = .next { u.reported n with a := s.peek a, bus := tr } := by
  rw [← htrace]
  exact exec_row_of_leaves f heffect

/-- A fetched byte comes before what follows it on the bus. -/
theorem pastByte_bus_append (s : State) (e : BusAccess) : s.pastByte.bus ++ [e] = s.bus ++ [.read s.pc, e] :=
  List.append_assoc _ _ _

/-! ### a register -/

/-- Settles O16: the register written is the destination, with the source's old value. -/
theorem loadRegisterFromRegister : Obligations.LoadRegisterFromRegister := fun dst src s =>
  ⟨by cases dst <;> cases src <;> rfl, by cases dst <;> cases src <;> rfl,
    exec_writesReg (.ldRegReg dst src) (onFlat_ldRegReg s dst src) fun _ => rfl⟩

/-- Settles O17: the address is the old HL, also where the destination is H or L. -/
theorem loadRegisterFromAtHL : Obligations.LoadRegisterFromAtHL := fun dst s =>
  ⟨by cases dst <;> rfl, by cases dst <;> rfl,
    exec_writesReg (.ldRegAtHL dst) (onFlat_ldRegAtHL s dst) fun _ => rfl⟩

/-- Settles O19: the register is written once the immediate has been fetched. -/
theorem loadRegisterImmediate : Obligations.LoadRegisterImmediate := fun dst s =>
  ⟨by cases dst <;> rfl, by cases dst <;> rfl,
    exec_writesReg (.ldRegImm dst) (onFlat_ldRegImm s dst) fun _ => rfl⟩

/-! ### the byte at HL -/

/-- Settles O18: the byte is stored at HL; the immediate form fetches it first. -/
theorem storeAtHL : Obligations.StoreAtHL := by
  refine ⟨fun src s => ⟨by cases src <;> rfl, by cases src <;> rfl, ?_⟩, rfl, rfl, fun s => ?_⟩
  · exact exec_storesByte (.ldAtHLReg src) (onFlat_ldAtHLReg s src) rfl rfl
  · exact exec_storesByte .ldAtHLImm (onFlat_ldAtHLImm s) rfl (pastByte_bus_append s _)

/-! ### the addresses of `r16mem` -/

/-- HL after a memory-indirect address has been formed (10_state.md R28). -/
theorem hl_r16mem (s : State) (m : R16Mem) :
    (s.r16mem m).2.hl = match m with | .bc => s.hl | .de => s.hl | .hlInc => s.hl + 1 | .hlDec => s.hl - 1 := by
  cases m with
  | bc | de => rfl
  | hlInc | hlDec => exact cat_hi_lo _

/-- Forming a memory-indirect address changes no more than H and L (10_state.md R28). -/
theorem r16mem_eq (s : State) (m : R16Mem) :
    (s.r16mem m).2 = { s with h := (s.r16mem m).2.h, l := (s.r16mem m).2.l } := by
  cases m <;> rfl

/-- Settles O20: A is stored at the address that `r16mem` forms, from the HL before it moves. -/
theorem storeAIndirect : Obligations.StoreAIndirect := by
  intro m s a
  have haddr : (s.r16mem m).1 = a := by cases m <;> rfl
  have heffect := onFlat_ldMemA s m
  rw [haddr, r16mem_eq] at heffect
  obtain ⟨t, hexec, hpeek, ht⟩ := exec_storesByte (.ldMemA m) heffect rfl rfl
  refine ⟨by cases m <;> rfl, by cases m <;> rfl, t, hexec, hpeek, ?_, ?_⟩
  · rw [ht]
    exact hl_r16mem s m
  · rw [ht]
    rfl

/-- Settles O21: A is loaded from the address that `r16mem` forms, from the HL before it moves. -/
theorem loadAIndirect : Obligations.LoadAIndirect := by
  intro m s a
  have haddr : (s.r16mem m).1 = a := by cases m <;> rfl
  have heffect := onFlat_ldAMem s m
  rw [haddr, r16mem_eq] at heffect
  exact ⟨by cases m <;> rfl, by cases m <;> rfl, _, exec_loadsA (.ldAMem m) heffect rfl, hl_r16mem s m, rfl⟩

/-! ### the high page and an absolute address -/

/-- Settles O22: the address is `highPage` of C or of the fetched byte. -/
theorem highPageLoadsAndStores : Obligations.HighPageLoadsAndStores := by
  refine ⟨⟨rfl, rfl, rfl, rfl⟩, ⟨rfl, rfl, rfl, rfl⟩, fun s => ?_⟩
  rw [← highPage_eq_add, ← highPage_eq_add]
  refine ⟨?_, ?_, ?_, ?_⟩
  · exact exec_storesByte .ldhAtCA (onFlat_ldhAtCA s) rfl rfl
  · exact exec_loadsA .ldhAAtC (onFlat_ldhAAtC s) rfl
  · exact exec_storesByte .ldhAtImmA (onFlat_ldhAtImmA s) rfl (pastByte_bus_append s _)
  · exact exec_loadsA .ldhAAtImm (onFlat_ldhAAtImm s) (pastByte_bus_append s _)

/-- Settles O23: the address is the little-endian word fetched first. -/
theorem absoluteLoadsAndStoresOfA : Obligations.AbsoluteLoadsAndStoresOfA :=
  ⟨⟨rfl, rfl, rfl, rfl⟩, fun s =>
    ⟨exec_storesByte .ldAtImm16A (onFlat_ldAtImm16A s) rfl rfl,
      exec_loadsA .ldAAtImm16 (onFlat_ldAAtImm16 s) rfl⟩⟩

end Sys2Proof.Machine
end

section
/-! SUPPORT. The 16-bit loads (41_load16.md R140 to R144) and `ADD SP,e8` (43_alu16.md R193), which shares the sum of
SP and a displacement with `LD HL,SP+e8`. -/

namespace Sys2Proof.Machine

/-! ### a word stored -/

/-- Settles O25: the state after differs from `pastWord` by a little-endian word written at the fetched address. -/
theorem storeSPLittleEndian : Obligations.StoreSPLittleEndian := by
  refine ⟨rfl, rfl, fun s => ?_⟩
  obtain ⟨hword, hframe, hlo, hhi⟩ :=
    peek_wordWritten s (t := (s.pastWord.wordStored s.immWord s.sp).ran 5) (a := s.immWord) (v := s.sp) rfl
  refine ⟨_, exec_row_of_leaves .ldAtImm16SP (onFlat_ldAtImm16SP s), hword, hframe, ?_⟩
  rw [hlo, hhi]
  rfl

/-! ### SP and a displacement -/

/-- The sum of SP and a displacement is a signed one (41_load16.md R144). -/
theorem addSpE8_val (sp : Word) (e : Byte) : (addSpE8 sp e).val = BitVec.ofInt 16 ((sp.toNat : Int) + e.toInt) :=
  add_sext16 sp e

/-- The displacement 0 gives SP itself and no carry. -/
theorem addSpE8_zero (sp : Word) : addSpE8 sp 0 = { val := sp, h := false, c := false } := by
  have hval : sp + sext16 0 = sp := BitVec.add_zero sp
  have hhalf : ¬ sp.toNat % 16 + 0 > 0x0F := by omega
  have hcarry : ¬ sp.toNat % 256 + 0 > 0xFF := by omega
  rw [addSpE8, hval]
  exact congr (congrArg (WordResult.mk sp) (decide_eq_false hhalf)) (decide_eq_false hcarry)

/-- HL reads back the word written to it. -/
@[simp] theorem hl_setHL (s : State) (w : Word) : (s.setHL w).hl = w := cat_hi_lo w

/-- A form that ends by writing the four flags, after whatever has led to `u`. -/
theorem exec_writesFlags (f : Form) {s u : State} {z n h c : Bool} {k : Nat}
    (heffect : onFlat (formProg f) s = (u.setFlags z n h c).ran k) :
    ∃ t, exec f.row s = .next t ∧ t.flags = (z, n, h, c) ∧ t.f &&& 0x0F = 0 ∧ t = { u.reported k with f := t.f } :=
  ⟨_, exec_row_of_leaves f heffect, flags_setFlags u z n h c, setFlags_low u z n h c, rfl⟩

/-- Settles O26: both forms take value and carries from `addSpE8`, and differ in where the value goes. -/
theorem stackPointerPlusDisplacement : Obligations.StackPointerPlusDisplacement := by
  refine ⟨⟨rfl, rfl, rfl, rfl⟩, ?_⟩
  intro s e result half carry
  have hval : (addSpE8 s.sp e).val = result := addSpE8_val s.sp e
  constructor
  · obtain ⟨t, hexec, hflags, hlow, ht⟩ := exec_writesFlags .ldHLSPe8 (onFlat_ldHLSPe8 s)
    refine ⟨t, hexec, ?_, hflags, hlow, ?_⟩
    · rw [ht]
      exact (hl_setHL s.pastByte _).trans hval
    · rw [ht]
      rfl
  · obtain ⟨t, hexec, hflags, hlow, ht⟩ := exec_writesFlags .addSPe8 (onFlat_addSPe8 s)
    refine ⟨t, hexec, ?_, hflags, hlow, ?_⟩
    · rw [ht]
      exact hval
    · rw [ht]
      rfl

/-! ### a pair loaded -/

theorem hi_immWord (s : State) : hi s.immWord = s.peek (s.pc + 1) := hi_append _ _

theorem lo_immWord (s : State) : lo s.immWord = s.peek s.pc := lo_append _ _

/-- Settles O24: a pair takes the halves of the fetched word; SP takes HL, or is read into HL by a displacement of 0. -/
theorem loadPairs : Obligations.LoadPairs := by
  refine ⟨fun r => ?_, ⟨rfl, rfl⟩, fun s => ?_⟩
  · cases r <;> exact ⟨rfl, rfl⟩
  have hload (r : R16) : exec (Row.ldR16Imm r) s = .next ((s.pastWord.setR16 r s.immWord).ran 3) :=
    exec_row_of_leaves (.ldR16Imm r) (onFlat_ldR16Imm s r)
  have hcopy : exec .ld_SP_HL s = .next (State.ran { s with sp := s.hl } 2) :=
    exec_row_of_leaves .ldSPHL (onFlat_ldSPHL s)
  obtain ⟨-, -, hhl, -⟩ := pairs_eq_append s
  rw [← hhl, ← hi_immWord, ← lo_immWord]
  refine ⟨hload .bc, hload .de, hload .hl, hload .sp, hcopy, fun hzero => ?_⟩
  have heffect := onFlat_ldHLSPe8 s
  rw [← lo_immWord, hzero, addSpE8_zero] at heffect
  exact ⟨_, exec_row_of_leaves .ldHLSPe8 heffect, hl_setHL s.pastByte s.sp, rfl⟩

end Sys2Proof.Machine
end

section
/-! SUPPORT. 8-bit arithmetic and logic (42_alu8.md R150 to R184). What `exec` answers is said once per place that the
result goes to: A (the operations on A, DAA, CPL), a general register, or the byte at HL; each with the four flags. A
form that writes the flags alone has `exec_writesFlags`. An obligation then names the effect of its form (Laws/Forms.lean)
and the result and flags over the integers (Laws/Flags.lean). -/

namespace Sys2Proof.Machine

/-! ### where a result goes -/

/-- A form that ends by writing `v` to A, and the four flags. -/
theorem exec_writesA (f : Form) {s u : State} {v : Byte} {z n h c : Bool} {k : Nat}
    (heffect : onFlat (formProg f) s = (State.setFlags { u with a := v } z n h c).ran k) :
    ∃ t, exec f.row s = .next t ∧ t.a = v ∧ t.flags = (z, n, h, c) ∧ t.f &&& 0x0F = 0 ∧
      t = { u.reported k with a := t.a, f := t.f } :=
  ⟨_, exec_row_of_leaves f heffect, rfl, flagByte_bits z n h c, flagByte_low z n h c, rfl⟩

/-- A form that ends by writing `v` to the register `r`, and the four flags. -/
theorem exec_writesRegAndFlags (f : Form) {s : State} {r : Reg} {v : Byte} {z n h c : Bool} {k : Nat}
    (heffect : onFlat (formProg f) s = ((s.setReg r v).setFlags z n h c).ran k) :
    ∃ t, exec f.row s = .next t ∧ t.reg r = v ∧ (∀ q, q ≠ r → t.reg q = s.reg q) ∧ t.flags = (z, n, h, c) ∧
      t.f &&& 0x0F = 0 ∧ t = { (s.withRegsOf t).reported k with f := t.f } := by
  refine ⟨_, exec_row_of_leaves f heffect, ?_, fun q hq => ?_, flagByte_bits z n h c, flagByte_low z n h c, ?_⟩
  · rw [reg_ran, reg_setFlags, reg_setReg, if_pos rfl]
  · rw [reg_ran, reg_setFlags, reg_setReg, if_neg hq]
  · exact congrArg (fun w : State => (w.setFlags z n h c).ran k) (setReg_eq_withRegsOf s r v)

/-- A form that reads the byte at `a`, ends by writing `v` there, and writes the four flags. -/
theorem exec_updatesByteAndFlags (f : Form) {s : State} {a : Word} {v : Byte} {z n h c : Bool} {k : Nat}
    (heffect : onFlat (formProg f) s = (((s.hasRead a).memWrite a v).setFlags z n h c).ran k) :
    ∃ t, exec f.row s = .next t ∧ t.peek a = v ∧ (∀ x, x ≠ a → t.peek x = s.peek x) ∧ t.flags = (z, n, h, c) ∧
      t.f &&& 0x0F = 0 ∧
      t = { s.reported k with f := t.f, mem := t.mem, bus := s.bus ++ [.read a, .write a (t.peek a)] } := by
  have hpeek := peek_written s (t := (((s.hasRead a).memWrite a v).setFlags z n h c).ran k) (a := a) (v := v) rfl
  have hsame := (hpeek a).trans (if_pos rfl)
  have htrace : (s.bus ++ [.read a]) ++ [.write a v] = s.bus ++ [.read a, .write a v] := List.append_assoc _ _ _
  refine ⟨_, exec_row_of_leaves f heffect, hsame, fun x hx => (hpeek x).trans (if_neg hx), flagByte_bits z n h c,
    flagByte_low z n h c, ?_⟩
  rw [hsame, ← htrace]
  rfl

/-! ### the three operand forms of an operation on A -/

/-- An operand form of an operation on A, as a form of the base table. -/
def AluForm.toForm (op : AluOp) : AluForm → Form
  | .reg r => .aluReg op r
  | .atHL => .aluAtHL op
  | .imm => .aluImm op

theorem row_toForm (form : AluForm) (op : AluOp) : (form.toForm op).row = form.instr op := by
  cases form <;> rfl

/-- The opcode byte of each operand form, and how many operand bytes it has (30_encoding.md R86, R87). -/
theorem encode_aluForm (form : AluForm) (op : AluOp) :
    encode (form.instr op) = [BitVec.ofNat 8 (form.opcode op)] ∧
      operandBytes (form.instr op) = if form = .imm then 1 else 0 := by
  cases form with
  | reg r => cases op <;> cases r <;> exact ⟨rfl, rfl⟩
  | atHL | imm => cases op <;> exact ⟨rfl, rfl⟩

/-- Reading the operand leaves A and F alone. -/
theorem past_a (form : AluForm) (s : State) : (form.past s).a = s.a := by
  cases form <;> rfl

theorem past_flagC (form : AluForm) (s : State) : (form.past s).flagC = s.flagC := by
  cases form <;> rfl

/-- Each operand form reads its operand, then operates on A. -/
theorem onFlat_toForm (form : AluForm) (op : AluOp) (s : State) :
    onFlat (formProg (form.toForm op)) s = ((form.past s).alu op (form.operand s)).ran form.cycles := by
  cases form with
  | reg r => exact onFlat_aluReg s op r
  | atHL => exact onFlat_aluAtHL s op
  | imm => exact onFlat_aluImm s op

/-- An operation that writes its result to A and Z from it, in each operand form (42_alu8.md R157 to R177). -/
theorem exec_aluForm_writesA (form : AluForm) (op : AluOp) {s : State} {v : Byte} {n h c : Bool}
    (halu : (form.past s).alu op (form.operand s) = State.setFlags { form.past s with a := v } (v == 0) n h c) :
    ∃ t, exec (form.instr op) s = .next t ∧ t.a = v ∧ t.flags = (decide (t.a = 0), n, h, c) ∧ t.f &&& 0x0F = 0 ∧
      t = { (form.past s).reported form.cycles with a := t.a, f := t.f } := by
  have heffect := onFlat_toForm form op s
  rw [halu] at heffect
  obtain ⟨t, hexec, ha, hflags, hlow, ht⟩ := exec_writesA (form.toForm op) heffect
  rw [row_toForm] at hexec
  rw [byte_test_zero, ← ha] at hflags
  exact ⟨t, hexec, ha, hflags, hlow, ht⟩

/-! ### sums and differences -/

/-- ADD and ADC are one addition; only ADC takes a carry-in. -/
theorem alu_add_adc (s : State) (b : Byte) (withCarry : Bool) :
    s.alu (if withCarry then .adc else .add) b = s.addA b (withCarry && s.flagC) := by
  cases withCarry <;> rfl

/-- SUB and SBC are one subtraction; only SBC takes a borrow-in. -/
theorem alu_sub_sbc (s : State) (b : Byte) (withBorrow : Bool) :
    s.alu (if withBorrow then .sbc else .sub) b = s.subA b (withBorrow && s.flagC) := by
  cases withBorrow <;> rfl

/-- A carry-in or borrow-in that an operation may leave out, as a number. -/
theorem carryIn_toNat (takes c : Bool) : (if takes then c.toNat else 0) = (takes && c).toNat := by
  cases takes <;> rfl

/-- Settles O27: both operations are `add8` with its carry-in, in each operand form. -/
theorem addAndAddWithCarry : Obligations.AddAndAddWithCarry := by
  intro form s withCarry op b cin
  have halu := alu_add_adc (form.past s) b withCarry
  rw [State.addA, past_a, past_flagC] at halu
  obtain ⟨hencode, hbytes⟩ := encode_aluForm form op
  obtain ⟨t, hexec, ha, hflags, hlow, ht⟩ := exec_aluForm_writesA form op halu
  have hcin : cin = (withCarry && s.flagC).toNat := carryIn_toNat withCarry s.flagC
  rw [hcin]
  exact ⟨hencode, hbytes, t, hexec, ha ▸ add8_val s.a b _, hflags, hlow, ht⟩

/-- Settles O28: both operations are `sub8` with its borrow-in, in each operand form. -/
theorem subtractAndSubtractWithBorrow : Obligations.SubtractAndSubtractWithBorrow := by
  intro form s withBorrow op b cin
  have halu := alu_sub_sbc (form.past s) b withBorrow
  rw [State.subA, past_a, past_flagC] at halu
  obtain ⟨hencode, hbytes⟩ := encode_aluForm form op
  obtain ⟨t, hexec, ha, hflags, hlow, ht⟩ := exec_aluForm_writesA form op halu
  have hcin : cin = (withBorrow && s.flagC).toNat := carryIn_toNat withBorrow s.flagC
  rw [hcin]
  exact ⟨hencode, hbytes, t, hexec, ha ▸ sub8_val s.a b _, hflags, hlow, ht⟩

/-- Settles O29: the flags are those of `sub8` with no borrow-in, whose result is zero only for equal bytes. -/
theorem compareWritesOnlyFlags : Obligations.CompareWritesOnlyFlags := by
  intro form s b
  have heffect := onFlat_toForm form .cp s
  rw [State.alu, State.compareA, past_a] at heffect
  obtain ⟨hencode, hbytes⟩ := encode_aluForm form .cp
  obtain ⟨t, hexec, hflags, hlow, ht⟩ := exec_writesFlags (form.toForm .cp) heffect
  rw [row_toForm] at hexec
  have hzero : ((sub8 s.a b false).val == 0) = decide (s.a = b) := decide_eq_decide.2 (sub8_val_eq_zero s.a b)
  rw [hzero] at hflags
  exact ⟨hencode, hbytes, t, hexec, hflags, hlow, ht⟩

/-! ### logic -/

/-- The result of a logic operation (42_alu8.md R152). -/
def logic8 (op : AluOp) (a b : Byte) : Byte :=
  if op = .and then a &&& b else if op = .xor then a ^^^ b else a ||| b

/-- AND, XOR and OR write `logic8` to A, and H tells AND. -/
theorem alu_logic (s : State) (b : Byte) {op : AluOp} (hop : op ∈ [AluOp.and, .xor, .or]) :
    s.alu op b = s.logicA (logic8 op s.a b) (decide (op = .and)) := by
  obtain rfl | rfl | rfl : op = .and ∨ op = .xor ∨ op = .or := by simpa using hop
  · rfl
  · rfl
  · rfl

/-- A logic operation works bit by bit. -/
theorem logic8_bit (op : AluOp) (a b : Byte) (k : Nat) :
    (logic8 op a b).getLsbD k =
      if op = .and then (a.getLsbD k && b.getLsbD k)
      else if op = .xor then (a.getLsbD k ^^ b.getLsbD k)
      else (a.getLsbD k || b.getLsbD k) := by
  rw [logic8, ← BitVec.getLsbD_and, ← BitVec.getLsbD_xor, ← BitVec.getLsbD_or, apply_ite (BitVec.getLsbD · k),
    apply_ite (BitVec.getLsbD · k)]

/-- Settles O30: the three operations are `logic8`, in each operand form. -/
theorem logicOperations : Obligations.LogicOperations := by
  intro form op s hop b
  have halu := alu_logic (form.past s) b hop
  rw [State.logicA, past_a] at halu
  obtain ⟨hencode, hbytes⟩ := encode_aluForm form op
  obtain ⟨t, hexec, ha, hflags, hlow, ht⟩ := exec_aluForm_writesA form op halu
  exact ⟨hencode, hbytes, t, hexec, fun k _ => ha ▸ logic8_bit op s.a b k, hflags, hlow, ht⟩

/-! ### increment and decrement -/

/-- Settles O31: the register takes `inc8` or `dec8` of its old value, and C is written back as it was. -/
theorem incrementAndDecrementRegister : Obligations.IncrementAndDecrementRegister := by
  intro r s
  constructor
  · obtain ⟨t, hexec, hr, hothers, hflags, hlow, ht⟩ := exec_writesRegAndFlags (.incReg r) (onFlat_incReg s r)
    rw [byte_test_zero, ← hr] at hflags
    exact ⟨by cases r <;> rfl, by cases r <;> rfl, t, hexec, hr ▸ inc8_val (s.reg r), hothers, hflags, hlow, ht⟩
  · obtain ⟨t, hexec, hr, hothers, hflags, hlow, ht⟩ := exec_writesRegAndFlags (.decReg r) (onFlat_decReg s r)
    rw [byte_test_zero, ← hr] at hflags
    exact ⟨by cases r <;> rfl, by cases r <;> rfl, t, hexec, hr ▸ dec8_val (s.reg r), hothers, hflags, hlow, ht⟩

/-- Settles O32: the byte at HL takes `inc8` or `dec8` of its old value, and C is written back as it was. -/
theorem incrementAndDecrementAtHL : Obligations.IncrementAndDecrementAtHL := by
  refine ⟨⟨rfl, rfl, rfl, rfl⟩, fun s => ⟨?_, ?_⟩⟩
  · obtain ⟨t, hexec, hbyte, hothers, hflags, hlow, ht⟩ := exec_updatesByteAndFlags .incAtHL (onFlat_incAtHL s)
    rw [byte_test_zero, ← hbyte] at hflags
    exact ⟨t, hexec, hbyte ▸ inc8_val (s.peek s.hl), hothers, hflags, hlow, ht⟩
  · obtain ⟨t, hexec, hbyte, hothers, hflags, hlow, ht⟩ := exec_updatesByteAndFlags .decAtHL (onFlat_decAtHL s)
    rw [byte_test_zero, ← hbyte] at hflags
    exact ⟨t, hexec, hbyte ▸ dec8_val (s.peek s.hl), hothers, hflags, hlow, ht⟩

/-! ### DAA, CPL, SCF and CCF -/

theorem onFlat_daa (s : State) :
    onFlat daa s = (State.setFlags { s with a := (daa8 s.a s.flagN s.flagH s.flagC).1 }
      ((daa8 s.a s.flagN s.flagH s.flagC).1 == 0) s.flagN false (daa8 s.a s.flagN s.flagH s.flagC).2).ran 1 := rfl

theorem onFlat_cpl (s : State) :
    onFlat cpl s = (State.setFlags { s with a := ~~~s.a } s.flagZ true true s.flagC).ran 1 := rfl

theorem onFlat_scf (s : State) : onFlat scf s = (s.setFlags s.flagZ false false true).ran 1 := rfl

theorem onFlat_ccf (s : State) : onFlat ccf s = (s.setFlags s.flagZ false false (!s.flagC)).ran 1 := rfl

/-- Settles O33: the two corrections of `daa8` are one signed correction of A, and its carry is the high one. -/
theorem decimalAdjust : Obligations.DecimalAdjust := by
  refine ⟨rfl, rfl, fun s => ?_⟩
  obtain ⟨hvalue, hcarry⟩ := daa8_val s.a s.flagN s.flagH s.flagC
  obtain ⟨t, hexec, ha, hflags, hlow, ht⟩ := exec_writesA .daa (onFlat_daa s)
  rw [byte_test_zero, ← ha, hcarry] at hflags
  exact ⟨t, hexec, ha ▸ hvalue, hflags, hlow, ht⟩

/-- Settles O34: CPL writes A and the flags, SCF and CCF the flags alone; a flag that is kept is written back. -/
theorem complementAndCarryFlagInstructions : Obligations.ComplementAndCarryFlagInstructions := by
  refine ⟨⟨rfl, rfl, rfl⟩, ⟨rfl, rfl, rfl⟩, fun s => ⟨?_, ?_, ?_⟩⟩
  · obtain ⟨t, hexec, ha, hflags, hlow, ht⟩ := exec_writesA .cpl (onFlat_cpl s)
    have hcomplement : t.a = s.a ^^^ 0xFF := ha.trans (BitVec.xor_allOnes (x := s.a)).symm
    exact ⟨t, hexec, hcomplement, hflags, hlow, ht⟩
  · exact exec_writesFlags .scf (onFlat_scf s)
  · exact exec_writesFlags .ccf (onFlat_ccf s)

end Sys2Proof.Machine
end

section
/-! SUPPORT. 16-bit arithmetic (43_alu16.md R190 to R192). INC and DEC of a pair write the pair alone, which is said
once; ADD HL,r16 writes HL and then the flags, so it has `exec_writesFlags`. -/

namespace Sys2Proof.Machine

/-- The opcode bytes `00pp0011`, `00pp1011` and `00pp1001`, with no operand byte (30_encoding.md R84). -/
theorem encode_pairForms (r : R16) :
    (encode (Row.incR16 r) = [BitVec.ofNat 8 (0x03 + 16 * r.num)] ∧ operandBytes (Row.incR16 r) = 0) ∧
    (encode (Row.decR16 r) = [BitVec.ofNat 8 (0x0B + 16 * r.num)] ∧ operandBytes (Row.decR16 r) = 0) ∧
    (encode (Row.addHLR16 r) = [BitVec.ofNat 8 (0x09 + 16 * r.num)] ∧ operandBytes (Row.addHLR16 r) = 0) := by
  cases r <;> exact ⟨⟨rfl, rfl⟩, ⟨rfl, rfl⟩, rfl, rfl⟩

/-- A write of a pair changes no more than the general registers and SP. -/
theorem setR16_eq_withRegsOf (s : State) (r : R16) (w : Word) :
    s.setR16 r w = { s.withRegsOf (s.setR16 r w) with sp := (s.setR16 r w).sp } := by
  cases r <;> rfl

@[simp] theorem r16_ran (s : State) (r : R16) (n : Nat) : (s.ran n).r16 r = s.r16 r := by
  cases r <;> rfl

/-- A form that ends by writing `w` to the pair `r`, and no flag (43_alu16.md R190, R191). -/
theorem exec_writesPair (f : Form) {s : State} {r : R16} {w : Word} {n : Nat}
    (heffect : onFlat (formProg f) s = (s.setR16 r w).ran n) :
    ∃ t, exec f.row s = .next t ∧ t.r16 r = w ∧ (∀ q, q ≠ r → t.r16 q = s.r16 q) ∧ t.a = s.a ∧
      t = { (s.withRegsOf t).reported n with sp := t.sp } := by
  refine ⟨_, exec_row_of_leaves f heffect, ?_, fun q hq => ?_, setR16_a s r w, ?_⟩
  · rw [r16_ran, r16_setR16]
  · rw [r16_ran, setR16_r16_of_ne s r q w hq]
  · exact congrArg (State.ran · n) (setR16_eq_withRegsOf s r w)

/-- Settles O35: the pair takes its old value plus or minus 1, as a word. -/
theorem incrementAndDecrementPair : Obligations.IncrementAndDecrementPair := by
  intro r s
  obtain ⟨⟨hincEncode, hincBytes⟩, ⟨hdecEncode, hdecBytes⟩, -⟩ := encode_pairForms r
  constructor
  · have hval : (s.r16 r + 1).toNat = ((s.r16 r).toNat + 1) % 65536 := BitVec.toNat_add _ _
    obtain ⟨t, hexec, hr, hothers, ha, ht⟩ := exec_writesPair (.incR16 r) (onFlat_incR16 s r)
    exact ⟨hincEncode, hincBytes, t, hexec, hr ▸ hval, hothers, ha, ht⟩
  · have hval : (s.r16 r - 1).toNat = ((s.r16 r).toNat + 65535) % 65536 := by
      rw [BitVec.toNat_sub, Nat.add_comm]
      rfl
    obtain ⟨t, hexec, hr, hothers, ha, ht⟩ := exec_writesPair (.decR16 r) (onFlat_decR16 s r)
    exact ⟨hdecEncode, hdecBytes, t, hexec, hr ▸ hval, hothers, ha, ht⟩

/-- Settles O36: HL takes the sum of `add16` and the flags its carries; Z is written back as it was. -/
theorem addPairToHL : Obligations.AddPairToHL := by
  intro r s
  obtain ⟨-, -, hencode, hbytes⟩ := encode_pairForms r
  obtain ⟨t, hexec, hflags, hlow, ht⟩ := exec_writesFlags (.addHLR16 r) (onFlat_addHLR16 s r)
  have hhl : t.hl = (add16 s.hl (s.r16 r)).val := by
    rw [ht]
    exact hl_setHL s _
  refine ⟨hencode, hbytes, t, hexec, hhl ▸ add16_val s.hl (s.r16 r), hflags, hlow, ?_⟩
  rw [ht]
  rfl

end Sys2Proof.Machine
end

section
/-! SUPPORT. Rotates, shifts and single bits (44_rotate_shift_bit.md R200 to R226). Result and carry-out are those of
`rotate` over the integers, RES and SET work bit by bit (Laws/Flags.lean); where a result goes is said once per place,
as for the 8-bit operations. All forms but the four accumulator rotates are rows of the extended table. -/

namespace Sys2Proof.Machine

/-! ### the bytes of an extended instruction -/

/-- The second opcode byte of an extended form, from its fields `x`, `y` and `z` (30_encoding.md R88). -/
def ExtForm.byte : ExtForm → Byte
  | .rotReg op r => BitVec.ofNat 8 (8 * op.num + r.num)
  | .rotAtHL op => BitVec.ofNat 8 (8 * op.num + 6)
  | .bitReg i r => BitVec.ofNat 8 (0x40 + 8 * i.num + r.num)
  | .bitAtHL i => BitVec.ofNat 8 (0x46 + 8 * i.num)
  | .resReg i r => BitVec.ofNat 8 (0x80 + 8 * i.num + r.num)
  | .resAtHL i => BitVec.ofNat 8 (0x86 + 8 * i.num)
  | .setBitReg i r => BitVec.ofNat 8 (0xC0 + 8 * i.num + r.num)
  | .setBitAtHL i => BitVec.ofNat 8 (0xC6 + 8 * i.num)

/-- The extended table reads the byte of a form as that form. -/
theorem extForm_byte (e : ExtForm) : extForm e.byte = e := by
  cases e with
  | rotReg op r => cases op <;> cases r <;> rfl
  | rotAtHL op => cases op <;> rfl
  | bitReg i r | resReg i r | setBitReg i r => cases i <;> cases r <;> rfl
  | bitAtHL i | resAtHL i | setBitAtHL i => cases i <;> rfl

/-- An extended row is the prefix and the byte of its form, with no operand bytes. -/
theorem encode_extRow (e : ExtForm) : encode e.row = [0xCB, e.byte] ∧ operandBytes e.row = 0 := by
  have h := encode_decodeExt e.byte
  rwa [decodeExt, extForm_byte] at h

/-! ### rotates and shifts -/

/-- An accumulator rotate is the `rotate` of its operation on A, with Z, N and H cleared. -/
theorem exec_rotatesA (f : Form) {op : RotOp} (hf : formProg f = rotA op) (s : State) :
    ∃ t, exec f.row s = .next t ∧ t.a.toNat = rotValue op s.a.toNat s.flagC.toNat ∧
      t.flags = (false, false, false, rotCarry op s.a.toNat) ∧
      t.f &&& 0x0F = 0 ∧ t = { s.reported 1 with a := t.a, f := t.f } := by
  have heffect := onFlat_rotA s op
  rw [← hf] at heffect
  obtain ⟨t, hexec, ha, hflags, hlow, ht⟩ := exec_writesA f heffect
  rw [rotate_carry] at hflags
  exact ⟨t, hexec, ha ▸ rotate_val op s.a s.flagC, hflags, hlow, ht⟩

/-- Settles O37: the four are the first four operations of `rotate`, on A. -/
theorem accumulatorRotates : Obligations.AccumulatorRotates := by
  refine ⟨⟨rfl, rfl, rfl, rfl⟩, ⟨rfl, rfl, rfl, rfl⟩, fun s i op hop => ?_⟩
  obtain ⟨rfl, rfl⟩ | ⟨rfl, rfl⟩ | ⟨rfl, rfl⟩ | ⟨rfl, rfl⟩ :
      (i = .rlca ∧ op = .rlc) ∨ (i = .rrca ∧ op = .rrc) ∨ (i = .rla ∧ op = .rl) ∨ (i = .rra ∧ op = .rr) := by
    simpa using hop
  · exact exec_rotatesA .rlca rfl s
  · exact exec_rotatesA .rrca rfl s
  · exact exec_rotatesA .rla rfl s
  · exact exec_rotatesA .rra rfl s

/-- Settles O38: the register takes the result of `rotate` on its old value, and Z tells whether it is zero. -/
theorem extendedRotatesAndShiftsOfRegister : Obligations.ExtendedRotatesAndShiftsOfRegister := by
  intro op r s
  obtain ⟨hencode, hbytes⟩ := encode_extRow (.rotReg op r)
  obtain ⟨t, hexec, hr, hothers, hflags, hlow, ht⟩ :=
    exec_writesRegAndFlags (.ext (.rotReg op r)) (onFlat_rotReg s op r)
  rw [rotate_carry, byte_test_zero, ← hr] at hflags
  exact ⟨hencode, hbytes, t, hexec, hr ▸ rotate_val op (s.reg r) s.flagC, hothers, hflags, hlow, ht⟩

/-- Settles O39: the byte at HL takes the result of `rotate` on its old value, and Z tells whether it is zero. -/
theorem extendedRotatesAndShiftsAtHL : Obligations.ExtendedRotatesAndShiftsAtHL := by
  intro op s
  obtain ⟨hencode, hbytes⟩ := encode_extRow (.rotAtHL op)
  obtain ⟨t, hexec, hbyte, hothers, hflags, hlow, ht⟩ :=
    exec_updatesByteAndFlags (.ext (.rotAtHL op)) (onFlat_rotAtHL s op)
  rw [rotate_carry, byte_test_zero, ← hbyte] at hflags
  exact ⟨hencode, hbytes, t, hexec, hbyte ▸ rotate_val op (s.peek s.hl) s.flagC, hothers, hflags, hlow, ht⟩

/-! ### single bits -/

/-- Settles O40: BIT writes the flags alone, after a read of the byte where the operand is `[HL]`. -/
theorem bitTest : Obligations.BitTest := by
  refine fun i s => ⟨fun r => ?_, ?_⟩
  · obtain ⟨hencode, hbytes⟩ := encode_extRow (.bitReg i r)
    exact ⟨hencode, hbytes, exec_writesFlags (.ext (.bitReg i r)) (onFlat_bitReg s i r)⟩
  · obtain ⟨hencode, hbytes⟩ := encode_extRow (.bitAtHL i)
    exact ⟨hencode, hbytes, exec_writesFlags (.ext (.bitAtHL i)) (onFlat_bitAtHL s i)⟩

/-- Settles O41: the register takes its old value with the bit masked out, or or-ed with the mask. -/
theorem bitResetAndSetOfRegister : Obligations.BitResetAndSetOfRegister := by
  intro i r s
  constructor
  · obtain ⟨hencode, hbytes⟩ := encode_extRow (.resReg i r)
    obtain ⟨t, hexec, hr, hothers, ht⟩ := exec_writesReg (.ext (.resReg i r)) (onFlat_resReg s i r) fun _ => rfl
    exact ⟨hencode, hbytes, t, hexec, hr ▸ res_bit (s.reg r) i, hothers, ht⟩
  · obtain ⟨hencode, hbytes⟩ := encode_extRow (.setBitReg i r)
    obtain ⟨t, hexec, hr, hothers, ht⟩ := exec_writesReg (.ext (.setBitReg i r)) (onFlat_setBitReg s i r) fun _ => rfl
    exact ⟨hencode, hbytes, t, hexec, hr ▸ set_bit (s.reg r) i, hothers, ht⟩

/-- A form that reads the byte at `a`, ends by writing `v` there, and writes no flag. -/
theorem exec_updatesByte (f : Form) {s : State} {a : Word} {v : Byte} {n : Nat}
    (heffect : onFlat (formProg f) s = ((s.hasRead a).memWrite a v).ran n) :
    ∃ t, exec f.row s = .next t ∧ t.peek a = v ∧ (∀ x, x ≠ a → t.peek x = s.peek x) ∧
      t = { s.reported n with mem := t.mem, bus := s.bus ++ [.read a, .write a (t.peek a)] } := by
  obtain ⟨t, hexec, hpeek, ht⟩ := exec_storesByte f heffect rfl (List.append_assoc s.bus [.read a] [.write a v])
  have hsame : t.peek a = v := (hpeek a).trans (if_pos rfl)
  refine ⟨t, hexec, hsame, fun x hx => (hpeek x).trans (if_neg hx), ?_⟩
  rw [hsame]
  exact ht

/-- Settles O42: the byte at HL takes its old value with the bit masked out, or or-ed with the mask. -/
theorem bitResetAndSetAtHL : Obligations.BitResetAndSetAtHL := by
  intro i s
  constructor
  · obtain ⟨hencode, hbytes⟩ := encode_extRow (.resAtHL i)
    obtain ⟨t, hexec, hbyte, hothers, ht⟩ := exec_updatesByte (.ext (.resAtHL i)) (onFlat_resAtHL s i)
    exact ⟨hencode, hbytes, t, hexec, hbyte ▸ res_bit (s.peek s.hl) i, hothers, ht⟩
  · obtain ⟨hencode, hbytes⟩ := encode_extRow (.setBitAtHL i)
    obtain ⟨t, hexec, hbyte, hothers, ht⟩ := exec_updatesByte (.ext (.setBitAtHL i)) (onFlat_setBitAtHL s i)
    exact ⟨hencode, hbytes, t, hexec, hbyte ▸ set_bit (s.peek s.hl) i, hothers, ht⟩

end Sys2Proof.Machine
end

section
/-! SUPPORT. Jumps, calls and returns (45_control.md R240 to R250). Every conditional form tests `State.holds`, every call
pushes the PC of the state it starts from (`called_spec`), and RETI leaves a fetching core with IME = 1, which passes its
boundary with a dispatch where a request is pending (47_system.md R265). -/

namespace Sys2Proof.Machine

/-! ### the condition -/

/-- The opcode bytes of the conditional forms, from the condition's number, and their operand bytes (30_encoding.md R84,
R87). -/
theorem encode_condForms (cc : Cond) :
    (encode (Row.jrCond cc) = [BitVec.ofNat 8 (0x20 + 8 * cc.num)] ∧ operandBytes (Row.jrCond cc) = 1) ∧
    (encode (Row.jpCond cc) = [BitVec.ofNat 8 (0xC2 + 8 * cc.num)] ∧ operandBytes (Row.jpCond cc) = 2) ∧
    (encode (Row.callCond cc) = [BitVec.ofNat 8 (0xC4 + 8 * cc.num)] ∧ operandBytes (Row.callCond cc) = 2) ∧
    (encode (Row.retCond cc) = [BitVec.ofNat 8 (0xC0 + 8 * cc.num)] ∧ operandBytes (Row.retCond cc) = 0) := by
  cases cc <;> exact ⟨⟨rfl, rfl⟩, ⟨rfl, rfl⟩, ⟨rfl, rfl⟩, rfl, rfl⟩

/-- A form that ends in one of two states by its condition; `taken` is any spelling of that condition. -/
theorem exec_takenIf (f : Form) {s t u : State} {cc : Cond} {taken : Bool} (htaken : taken = s.holds cc)
    (heffect : onFlat (formProg f) s = if s.holds cc then t else u) : exec f.row s = .next (if taken then t else u) := by
  rw [htaken]
  exact exec_row_of_leaves f heffect

/-! ### jumps -/

/-- Settles O43: the displacement is added, sign-extended, to the PC past it, where the condition holds. -/
theorem relativeJumps : Obligations.RelativeJumps := by
  refine ⟨⟨rfl, rfl⟩, fun cc => ?_, fun s => ?_⟩
  · obtain ⟨hjr, -, -, -⟩ := encode_condForms cc
    exact hjr
  · rw [← add_sext16]
    exact ⟨exec_row_of_leaves .jr (onFlat_jr s),
      fun cc => exec_takenIf (.jrCond cc) (by cases cc <;> rfl) (onFlat_jrCond s cc)⟩

/-- Settles O44: PC takes the fetched word, where the condition holds, or HL itself. -/
theorem absoluteJumps : Obligations.AbsoluteJumps := by
  refine ⟨⟨rfl, rfl, rfl, rfl⟩, fun cc => ?_, fun s => ?_⟩
  · obtain ⟨-, hjp, -, -⟩ := encode_condForms cc
    exact hjp
  · obtain ⟨-, -, hhl, -⟩ := pairs_eq_append s
    rw [← hhl]
    exact ⟨exec_row_of_leaves .jp (onFlat_jp s), exec_row_of_leaves .jpHL (onFlat_jpHL s),
      fun cc => exec_takenIf (.jpCond cc) (by cases cc <;> rfl) (onFlat_jpCond s cc)⟩

/-! ### calls -/

/-- Everything a transfer to `a` with PC pushed leaves, in `n` cycles: the old PC, little-endian, below the old SP, and
every other byte as before (45_control.md R245, R250). -/
theorem called_spec (s : State) (a : Word) (n : Nat) {t : State}
    (ht : t = State.ran { s.pushed s.pc with pc := a } n) :
    t.wordAt (s.sp - 2) = s.pc ∧ (∀ x, x ≠ s.sp - 2 → x ≠ s.sp - 1 → t.peek x = s.peek x) ∧
      t = { s.reported n with
        sp := s.sp - 2, pc := a, mem := t.mem
        bus := s.bus ++ [.write (s.sp - 1) (t.peek (s.sp - 1)), .write (s.sp - 2) (t.peek (s.sp - 2))] } := by
  have hmem : t.mem = wordPushed s.mem s.sp s.pc := by
    rw [ht]
    rfl
  obtain ⟨hword, hframe, hhi, hlo⟩ := peek_wordPushed s hmem
  refine ⟨hword, hframe, ?_⟩
  rw [hhi, hlo, hmem]
  exact ht

/-- Settles O45: a call is `called_spec` from the state past the fetched word, where the condition holds. -/
theorem callsPushTheReturnAddress : Obligations.CallsPushTheReturnAddress := by
  refine ⟨⟨rfl, rfl⟩, fun cc => ?_, fun s => ?_⟩
  · obtain ⟨-, -, hcall, -⟩ := encode_condForms cc
    exact hcall
  · obtain ⟨hword, hframe, ht⟩ := called_spec s.pastWord s.immWord 6 rfl
    exact ⟨_, hword, hframe, ht, exec_row_of_leaves .call (onFlat_call s),
      fun cc => exec_takenIf (.callCond cc) (by cases cc <;> rfl) (onFlat_callCond s cc)⟩

/-- Settles O47: a restart is `called_spec` with its vector as the target. -/
theorem restartPushesPCAndGoesToItsVector : Obligations.RestartPushesPCAndGoesToItsVector := fun n s =>
  ⟨by cases n <;> rfl, by cases n <;> rfl, _, exec_row_of_leaves (.rst n) (onFlat_rst s n), called_spec s _ 4 rfl⟩

/-! ### returns -/

/-- The end of an instruction keeps IME = 1 (47_system.md R265 part 5). -/
theorem consumeImePending_ime_of_true {s : State} (h : s.ime = true) (p : Bool) : (s.consumeImePending p).ime = true := by
  obtain hkeep | hset := consumeImePending_eq s p
  · rw [hkeep, h]
  · rw [hset]

/-- A step that runs RETI leaves a fetching core with IME = 1 (45_control.md R249). -/
theorem step_reti_run_ime {s t : State} (hpass : s.passes) (hrun : s.ime = false ∨ s.pending = 0)
    (hbyte : s.peek s.pc = 0xD9) (h : step s = .next t) : t.run = .fetching ∧ t.ime = true := by
  rw [step, stepWith_execute _ s hpass hrun, hbyte] at h
  obtain ⟨v, hv, rfl⟩ := finishInstruction_next h
  cases (exec_row_of_leaves .reti (onFlat_reti _)).symm.trans hv
  exact ⟨consumeImePending_run _ _, consumeImePending_ime_of_true rfl _⟩

/-- A core that passes its boundary with IME = 1 and a request pending dispatches an interrupt (60_exceptions.md R306). -/
theorem step_dispatches {t : State} (hpass : t.passes) (hime : t.ime = true) (hpending : t.pending ≠ 0) :
    ∃ u i, step t = .next u ∧ u.status = .interrupt i := by
  obtain ⟨i, hi⟩ := selected_pending_isSome t hpending
  refine ⟨_, i, stepWith_dispatch _ t i hpass hime hi, ?_⟩
  obtain ⟨-, -, hu⟩ := dispatch_spec { t with run := .fetching, bus := [] } Config.intVector i
  rw [hu]

/-- Settles O46: each return is `State.popped` with PC the word at SP, and the state that RETI leaves dispatches. -/
theorem returnsPopTheReturnAddress : Obligations.ReturnsPopTheReturnAddress := by
  refine ⟨⟨rfl, rfl, rfl, rfl⟩, fun cc => ?_, fun s => ⟨?_, ?_, fun cc => ?_⟩,
    fun s t hfetching hrun hbyte h hpending => ?_⟩
  · obtain ⟨-, -, -, hret⟩ := encode_condForms cc
    exact hret
  · exact exec_row_of_leaves .ret (onFlat_ret s)
  · exact exec_row_of_leaves .reti (onFlat_reti s)
  · exact exec_takenIf (.retCond cc) (by cases cc <;> rfl) (onFlat_retCond s cc)
  · obtain ⟨hnext, hime⟩ := step_reti_run_ime (.inl hfetching) hrun hbyte h
    exact step_dispatches (.inl hnext) hime hpending

end Sys2Proof.Machine
end

section
/-! SUPPORT. PUSH and POP (46_stack.md R260 to R263). A push stores the pair as `State.pushed` says and a pop loads the
word at SP; a pair written back to itself changes at most the low nibble of F, which reads as 0. -/

namespace Sys2Proof.Machine

/-- The opcode bytes `11pp0101` and `11pp0001`, with no operand byte (30_encoding.md R87). -/
theorem encode_stackForms (r : R16Stk) :
    (encode (Row.push r) = [BitVec.ofNat 8 (0xC5 + 16 * r.num)] ∧ operandBytes (Row.push r) = 0) ∧
    (encode (Row.pop r) = [BitVec.ofNat 8 (0xC1 + 16 * r.num)] ∧ operandBytes (Row.pop r) = 0) := by
  cases r <;> exact ⟨⟨rfl, rfl⟩, rfl, rfl⟩

/-! ### a word pushed -/

theorem exec_pushes (r : R16Stk) (s : State) : exec (Row.push r) s = .next ((s.pushed (s.r16stk r)).ran 4) :=
  exec_row_of_leaves (.push r) (onFlat_push s r)

/-- Settles O48: the word that `State.pushed` stores below SP is the pair, and it stores nothing else. -/
theorem pushStoresThePair : Obligations.PushStoresThePair := by
  intro r s
  obtain ⟨⟨hencode, hbytes⟩, -⟩ := encode_stackForms r
  obtain ⟨hword, hframe, hhi, hlo⟩ := peek_wordPushed s (t := (s.pushed (s.r16stk r)).ran 4) rfl
  obtain ⟨hbc, hde, hhl, haf⟩ := pairs_eq_append s
  refine ⟨hencode, hbytes, _, exec_pushes r s, hword.trans ?_, hframe, ?_⟩
  · cases r with
    | bc => exact hbc
    | de => exact hde
    | hl => exact hhl
    | af => exact haf
  · rw [hhi, hlo]
    rfl

/-! ### a word popped -/

theorem hi_wordAt (s : State) (a : Word) : hi (s.wordAt a) = s.peek (a + 1) := hi_append _ _

theorem lo_wordAt (s : State) (a : Word) : lo (s.wordAt a) = s.peek a := lo_append _ _

theorem exec_pops (r : R16Stk) (s : State) :
    exec (Row.pop r) s = .next ((s.popped.setR16stk r (s.wordAt s.sp)).ran 3) :=
  exec_row_of_leaves (.pop r) (onFlat_pop s r)

/-- Settles O49: the pair takes the halves of the word at SP, and F the upper nibble of the low half. -/
theorem popLoadsThePair : Obligations.PopLoadsThePair := by
  refine ⟨fun r => ?_, fun s => ?_⟩
  · obtain ⟨-, hpop⟩ := encode_stackForms r
    exact hpop
  · rw [← hi_wordAt, ← lo_wordAt]
    exact ⟨exec_pops .bc s, exec_pops .de s, exec_pops .hl s, exec_pops .af s⟩

/-! ### a pop after a push -/

/-- A pair written back to itself changes no register, and no bit of F that can be read (10_state.md R23). -/
theorem setR16stk_r16stk (s : State) (r : R16Stk) :
    ∃ f, f &&& 0xF0 = s.readF ∧ s.setR16stk r (s.r16stk r) = { s with f := f } := by
  cases r with
  | bc => exact ⟨s.f, rfl, by rw [State.setR16stk, State.r16stk, State.setBC, State.bc, hi_cat, lo_cat]⟩
  | de => exact ⟨s.f, rfl, by rw [State.setR16stk, State.r16stk, State.setDE, State.de, hi_cat, lo_cat]⟩
  | hl => exact ⟨s.f, rfl, by rw [State.setR16stk, State.r16stk, State.setHL, State.hl, hi_cat, lo_cat]⟩
  | af =>
    have hmask : s.readF &&& 0xF0 = s.readF := by rw [State.readF, BitVec.and_assoc, BitVec.and_self]
    refine ⟨s.readF, hmask, ?_⟩
    rw [State.setR16stk, State.r16stk, State.setAF, State.af, hi_cat, lo_cat, State.writeF, hmask]

/-- A pop of the word that the pair already holds writes no register, and no bit of F that can be read. -/
theorem exec_pops_same {s : State} {r : R16Stk} (hword : s.wordAt s.sp = s.r16stk r) :
    ∃ f, f &&& 0xF0 = s.readF ∧ exec (Row.pop r) s = .next (State.ran { s.popped with f := f } 3) := by
  have hpair : s.popped.r16stk r = s.r16stk r := by cases r <;> rfl
  obtain ⟨f, hf, hback⟩ := setR16stk_r16stk s.popped r
  refine ⟨f, hf, ?_⟩
  rw [exec_pops, hword, ← hpair, hback]

/-- Settles O50: the lowered SP points at the pushed word, which is the value that the pair still has. -/
theorem popAfterPushRestores : Obligations.PopAfterPushRestores := by
  intro r s
  obtain ⟨hword, -, -, -⟩ := peek_wordPushed s (t := (s.pushed (s.r16stk r)).ran 4) rfl
  have hpair : s.r16stk r = ((s.pushed (s.r16stk r)).ran 4).r16stk r := by cases r <;> rfl
  obtain ⟨f, hf, hpop⟩ := exec_pops_same (hword.trans hpair)
  exact ⟨_, _, exec_pushes r s, hpop, fun q => by cases q <;> rfl, hf, sub_two_add_two s.sp, rfl, rfl, hword⟩

end Sys2Proof.Machine
end

section
/-! SUPPORT. The bytes of an instruction read back (30_encoding.md R80, R91): what the decoder can answer, said once, and
the round trip in both directions. -/

namespace Sys2Proof.Machine

/-- Settles O1: the opcode bytes that the encoder writes are those the decoders read, and operand bytes decide nothing. -/
theorem decodeEncodeRoundTrip : Obligations.DecodeEncodeRoundTrip :=
  fun _ _ rest h => decode_encode_append h rest

/-- The prefix row has one byte, 0xCB. -/
theorem decodeBase_eq_prefix_iff (b : Byte) : decodeBase b = .prefix_CB ↔ b = 0xCB := by
  constructor
  · intro h
    have hbyte := encode_decodeBase b
    rw [h] at hbyte
    exact (List.singleton_inj.1 hbyte).symm
  · rintro rfl
    rfl

/-- The reading of an opcode byte of the base table and of the bytes after it. -/
theorem decode_cons_of_ne_prefix {b : Byte} (hb : decodeBase b ≠ .prefix_CB) (tail : List Byte) :
    decode (b :: tail) =
      if tail.length < operandBytes (decodeBase b) then .error .shortOperand
      else .ok (decodeBase b, tail.take (operandBytes (decodeBase b)), tail.drop (operandBytes (decodeBase b))) :=
  if_neg hb

/-- Everything the decoder can read: a row of the base table with its operand bytes, or the prefix and a row of the
extended table, which has none. -/
theorem decode_cases {bs operand rest : List Byte} {i : Instr} (h : decode bs = .ok (i, operand, rest)) :
    (∃ b, decodeBase b ≠ .prefix_CB ∧ i = decodeBase b ∧ operand.length = operandBytes (decodeBase b) ∧
      bs = b :: (operand ++ rest)) ∨
    (∃ b2, i = decodeExt b2 ∧ operand = [] ∧ bs = 0xCB :: b2 :: rest) := by
  cases bs with
  | nil => cases h
  | cons b tail =>
    by_cases hb : decodeBase b = .prefix_CB
    · obtain rfl := (decodeBase_eq_prefix_iff b).1 hb
      cases tail with
      | nil => cases h
      | cons b2 tail =>
        cases h
        exact .inr ⟨b2, rfl, rfl, rfl⟩
    · rw [decode_cons_of_ne_prefix hb] at h
      split at h
      · cases h
      · next hlong =>
        cases h
        exact .inl ⟨b, hb, rfl, List.length_take_of_le (Nat.le_of_not_lt hlong), by rw [List.take_append_drop]⟩

/-- A whole instruction with its operand bytes: not the bare prefix, and as many bytes as it has. -/
theorem wellFormedWith_iff (i : Instr) (operand : List Byte) :
    wellFormedWith i operand = true ↔ i ≠ .prefix_CB ∧ operand.length = operandBytes i := by
  have hwhole : wellFormed i = true ↔ i ≠ .prefix_CB := by
    unfold wellFormed
    split
    · exact ⟨nofun, fun h => absurd rfl h⟩
    · next h => exact ⟨fun _ => h, fun _ => rfl⟩
  rw [wellFormedWith, Bool.and_eq_true, decide_eq_true_eq, hwhole]

/-- What the decoder reads is whole, and its bytes are the bytes read. -/
theorem encode_of_decode {bs operand rest : List Byte} {i : Instr} (h : decode bs = .ok (i, operand, rest)) :
    wellFormedWith i operand = true ∧ bs = encode i ++ operand ++ rest := by
  rw [wellFormedWith_iff]
  obtain ⟨b, hb, rfl, hlen, rfl⟩ | ⟨b2, rfl, rfl, rfl⟩ := decode_cases h
  · rw [encode_decodeBase]
    exact ⟨⟨hb, hlen⟩, rfl⟩
  · obtain ⟨hencode, hbytes⟩ := encode_decodeExt b2
    obtain ⟨hb, -⟩ := decodeExt_ordinary b2
    rw [hencode, hbytes]
    exact ⟨⟨hb, rfl⟩, rfl⟩

/-- No instruction has more than two operand bytes (30_encoding.md R91): a check of the 256 opcode bytes. -/
theorem operandBytes_decodeBase_le : ∀ b : Byte, operandBytes (decodeBase b) ≤ 2 := by decide +kernel

/-- Three bytes hold an instruction, whatever they are. -/
theorem decode_of_three_le {bs : List Byte} (h : 3 ≤ bs.length) : ∃ i operand rest, decode bs = .ok (i, operand, rest) := by
  match bs, h with
  | b :: b2 :: b3 :: rest, _ =>
    by_cases hb : decodeBase b = .prefix_CB
    · exact ⟨_, _, _, if_pos hb⟩
    · have hlong : ¬ (b2 :: b3 :: rest).length < operandBytes (decodeBase b) := by
        have := operandBytes_decodeBase_le b
        simp only [List.length_cons]
        omega
      exact ⟨_, _, _, (decode_cons_of_ne_prefix hb _).trans (if_neg hlong)⟩

/-- Settles O2: the decoder's answers are the two of `decode_cases`, and no instruction is longer than three bytes. -/
theorem decodeReadsBackEveryByte : Obligations.DecodeReadsBackEveryByte :=
  ⟨fun _ _ _ _ h => encode_of_decode h, fun _ h => decode_of_three_le h⟩

/-- Settles O3: each sample byte is read by its fields, by evaluation. -/
theorem sampleWordsDecode : Obligations.SampleWordsDecode := by
  unfold Obligations.SampleWordsDecode
  decide

end Sys2Proof.Machine
end

section
/-! SUPPORT. The invariant of the machine: every start has it, and every step keeps it (10_state.md sections 3 and 6). -/

namespace Sys2Proof.Machine

/-! ### the starts -/

/-- Bits 3 to 0 of F after reset are 0, and bits 7 to 4 are the given ones (10_state.md R38). -/
theorem resetFlags_nibbles : ∀ v : BitVec 4,
    BitVec.ofNat 8 (16 * v.toNat) &&& 0x0F = 0 ∧ BitVec.ofNat 8 (16 * v.toNat) >>> 4 = v.setWidth 8 := by
  decide

theorem resetWith_inv (r : ResetRegs) {m : Memory} (hm : Memory.wf m = true) : (State.resetWith r m).Inv := by
  obtain ⟨hlow, -⟩ := resetFlags_nibbles r.flags
  exact ⟨hm, hlow, fun _ => rfl, nofun⟩

/-- The loader admits a record only with a zero low nibble of F (70_reset_and_hazards.md R350). -/
theorem load_inv {r : Snapshot} {s : State} (h : r.load = some s) : s.Inv := by
  rw [Snapshot.load] at h
  split at h
  · next hlow =>
    cases h
    exact ⟨wf_loadCells r.ram, hlow, fun _ => rfl, nofun⟩
  · cases h

/-- Settles O7: a start has its memory in canonical form, IME and ime_pending 0, and a zero low nibble of F. -/
theorem resetAndLoadedStatesHaveInvariant : Obligations.ResetAndLoadedStatesHaveInvariant :=
  ⟨resetWith_inv Config.resetRegs rfl, fun r _ hm => resetWith_inv r hm, fun r _ ⟨hm, _⟩ => resetWith_inv r hm,
    fun _ _ h => load_inv h⟩

/-! ### the steps -/

/-- A request touches memory alone, by a write. -/
theorem requestInterrupts_inv {s : State} (h : s.Inv) (m : BitVec 5) : (s.requestInterrupts m).Inv := by
  obtain ⟨hm, hrest⟩ := h
  exact ⟨Memory.wf_write_word s.mem addrIF _ hm, hrest⟩

/-- No instruction of a fetching core leaves `PrefixPending` (10_state.md R33). -/
theorem runAfter_ne_prefixPending (f : Form) : runAfter f .fetching ≠ .prefixPending := by
  cases f <;> intro h <;> cases h

/-- The end of an instruction keeps "ime_pending = 1 implies IME = 0". -/
theorem consumeImePending_ime_inv {s : State} (h : s.imePending = true → s.ime = false) (p : Bool) :
    (s.consumeImePending p).imePending = true → (s.consumeImePending p).ime = false := by
  obtain hkeep | hset := consumeImePending_eq s p
  · rw [hkeep]
    exact h
  · rw [hset]
    intro hpending
    cases hpending

/-- Every step keeps the invariant, for every vector table: memory through the bus trace, the rest case by case. -/
theorem stepWith_inv {vec : Fin 5 → Word} {s t : State} (h : s.Inv) (hstep : stepWith vec exec s = .next t) : t.Inv := by
  obtain ⟨hm, hlow, hime, hrun⟩ := h
  refine ⟨(stepWith_traced hstep).wf hm, ?_⟩
  obtain ⟨-, rfl⟩ | ⟨-, -, rfl⟩ | ⟨-, ⟨i, -, -, rfl⟩ | ⟨-, v, rfl, hv⟩⟩ := stepWith_cases hstep
  · exact ⟨hlow, hime, hrun⟩
  · exact ⟨hlow, hime, hrun⟩
  · obtain ⟨-, -, ht⟩ := dispatch_spec { s with run := .fetching, bus := [] } vec i
    rw [ht]
    exact ⟨hlow, fun _ => rfl, nofun⟩
  · obtain ⟨hnext, -⟩ := exec_run hv
    rw [consumeImePending_f, consumeImePending_run, hnext]
    exact ⟨exec_low_nibble hv hlow, consumeImePending_ime_inv (exec_ime_inv hv hime) _, runAfter_ne_prefixPending _⟩

/-- Settles O6: the invariant is kept by a step, and by a request before it. -/
theorem stepKeepsInvariant : Obligations.StepKeepsInvariant :=
  fun _ _ h => ⟨stepWith_inv h, fun m => stepWith_inv (requestInterrupts_inv h m)⟩

end Sys2Proof.Machine
end

section
/-! SUPPORT. What an instruction answers (47_system.md R266, R267, R346): its machine cycles, form by form, and whose
meaning writes IME; then the step of a fetching core, which runs the instruction decoded at PC (R265). -/

namespace Sys2Proof.Machine

/-! ### machine cycles -/

/-- Bounds of a number that evaluates to a literal: `rfl` shows `h`. -/
theorem between_of_decide {lo n hi : Nat} (h : decide (lo ≤ n ∧ n ≤ hi) = true) : lo ≤ n ∧ n ≤ hi :=
  of_decide_eq_true h

/-- An extended instruction takes 2 to 4 machine cycles. -/
theorem extProg_cycles (e : ExtForm) (s : State) : (extProg e s).All fun t => 2 ≤ t.cycles ∧ t.cycles ≤ 4 := by
  cases e with
  | rotReg | bitReg | resReg | setBitReg => exact between_of_decide rfl
  | rotAtHL | bitAtHL | resAtHL | setBitAtHL => exact fun _ => between_of_decide rfl

/-- An instruction that is not illegal takes 1 to 6 machine cycles. A case is a function of the bytes the effect reads. -/
theorem formProg_cycles (f : Form) (s : State) (hf : ∀ x, f ≠ .illegal x) :
    (formProg f s).All fun t => 1 ≤ t.cycles ∧ t.cycles ≤ 6 := by
  have hext (e : ExtForm) (u : State) : (extProg e u).All fun t => 1 ≤ t.cycles ∧ t.cycles ≤ 6 :=
    (extProg_cycles e u).imp fun t ht => by omega
  cases f with
  | illegal x => exact absurd rfl (hf x)
  | ext e => exact hext e s
  | prefixCB => exact fun v => hext (extForm v) { s with run := .fetching, pc := s.pc + 1 }
  | jrCond => exact fun _ => all_ite _ _ _ (between_of_decide rfl) (between_of_decide rfl)
  | jpCond | callCond => exact fun _ _ => all_ite _ _ _ (between_of_decide rfl) (between_of_decide rfl)
  | retCond => exact all_ite _ _ _ (fun _ _ => between_of_decide rfl) (between_of_decide rfl)
  | nop | addHLR16 | incR16 | decR16 | incReg | decReg | rlca | rrca | rla | rra | daa | cpl | scf | ccf | ldRegReg
  | ldAtHLReg | ldMemA | halt | aluReg | jpHL | ldSPHL | ldhAtCA | di | ei | push | rst =>
    exact between_of_decide rfl
  | stop | jr | incAtHL | decAtHL | ldAMem | ldRegImm | ldRegAtHL | ldAtHLImm | aluAtHL | aluImm | ldhAtImmA | addSPe8
  | ldHLSPe8 | ldhAAtC =>
    exact fun _ => between_of_decide rfl
  | ldAtImm16SP | ldR16Imm | ldhAAtImm | ldAtImm16A | pop | ret | reti | jp | call =>
    exact fun _ _ => between_of_decide rfl
  | ldAAtImm16 => exact fun _ _ _ => between_of_decide rfl

/-- Settles O8: `exec` always answers a next state, and the count is that of the instruction's form. -/
theorem everyInstructionCompletes : Obligations.EveryInstructionCompletes := by
  refine fun i s => ⟨_, exec_eq i s, fun hi => ?_, fun hi => ?_⟩
  · have hlegal : ∀ x, formOf i ≠ .illegal x := fun x hx => hi ((mem_illegalRows_iff i).2 ⟨x, hx⟩)
    exact (formProg_cycles (formOf i) s hlegal).onFlat fun _ _ _ h => h
  · obtain ⟨x, hx⟩ := (mem_illegalRows_iff i).1 hi
    rw [hx]
    rfl

/-! ### the interrupt state -/

/-- Settles O10: only the forms DI, EI and RETI write IME or ime_pending (`formProg_ime`). -/
theorem onlyDiEiRetiWriteIme : Obligations.OnlyDiEiRetiWriteIme := by
  intro i s t hi hexec
  simp only [List.mem_cons, List.not_mem_nil, or_false, not_or] at hi
  exact exec_ime hexec hi

/-! ### the outcome of a step -/

/-- A core that passes its boundary answers a next state: a dispatch does, and every instruction does. -/
theorem step_next_of_passes {s : State} (h : s.passes) : ∃ t, step s = .next t := by
  by_cases hi : s.ime = false ∨ s.pending = 0
  · rw [step, stepWith_execute _ s h hi, exec_eq]
    exact ⟨_, rfl⟩
  · rw [not_or, Bool.not_eq_false] at hi
    obtain ⟨t, _, ht, -⟩ := step_dispatches h hi.1 hi.2
    exact ⟨t, ht⟩

/-- Settles O9: by run state; a halted core idles, or passes its boundary as a fetching one does. -/
theorem stepFaultsExactlyWhenFaulted : Obligations.StepFaultsExactlyWhenFaulted := by
  refine fun s => ⟨fun b hb => stepWith_faulted _ s b hb, fun hnot => ?_⟩
  cases hrun : s.run with
  | faulted b => exact absurd hrun (hnot b)
  | stopped => exact ⟨_, stepWith_stopped _ s hrun⟩
  | fetching => exact step_next_of_passes (.inl hrun)
  | prefixPending => exact step_next_of_passes (.inr (.inl hrun))
  | halted =>
    by_cases hp : s.pending = 0
    · exact ⟨_, stepWith_halted_idle _ s hrun hp⟩
    · exact step_next_of_passes (.inr (.inr ⟨hrun, hp⟩))

/-! ### the instruction that a fetching core runs -/

/-- A fetching core that takes no interrupt runs the instruction of the opcode at PC. -/
theorem step_of_fetching {s : State} (hrun : s.run = .fetching) (hi : s.ime = false ∨ s.pending = 0) :
    step s = finishInstruction s.imePending
      (exec (decodeBase (s.peek s.pc)) { s with pc := s.pc + 1, bus := [.read s.pc] }) := by
  have hstep := stepWith_execute Config.intVector s (.inl hrun) hi
  rwa [← hrun] at hstep

/-- From a fetching core the prefix runs the extended instruction of the byte at PC, with PC past it (R275). -/
theorem exec_prefix_of_fetching {s : State} (hrun : s.run = .fetching) :
    exec .prefix_CB s = exec (decodeExt (s.peek s.pc)) s.pastByte := by
  rw [exec_prefix, ← hrun]
  rfl

/-- Settles O5: one opcode byte is fetched by the step itself, and the second of an extended row by the prefix. -/
theorem stepRunsTheDecodedInstruction : Obligations.StepRunsTheDecodedInstruction := by
  intro s i operand rest hrun hi hdecode
  rw [step_of_fetching hrun hi]
  congr 1
  obtain ⟨b, -, rfl, -, hbytes⟩ | ⟨b2, rfl, -, hbytes⟩ := decode_cases hdecode
  · obtain ⟨rfl, -⟩ := List.cons.inj hbytes
    rw [encode_decodeBase]
    simp [List.range_succ]
  · obtain ⟨hb, hrest⟩ := List.cons.inj hbytes
    obtain ⟨rfl, -⟩ := List.cons.inj hrest
    have hprefix := exec_prefix_of_fetching (s := { s with pc := s.pc + 1, bus := [.read s.pc] }) hrun
    have htwo : s.pc + 1 + 1 = s.pc + 2 := BitVec.add_assoc _ _ _
    obtain ⟨hencode, -⟩ := encode_decodeExt (s.peek (s.pc + 1))
    rw [hb, (decodeBase_eq_prefix_iff _).2 rfl, hprefix, hencode, State.pastByte, htwo]
    simp [List.range_succ, State.peek]

end Sys2Proof.Machine
end

section
/-! SUPPORT. Interrupts (60_exceptions.md R303 to R311): which type a pending set selects, when a step dispatches, and what
the dispatch does, on the default bus and on any platform. -/

namespace Sys2Proof.Machine

/-! ### the type selected -/

/-- Bit `j` of the pending set: set in both IE and IF (60_exceptions.md R304). -/
theorem pendingIn_bit (peek : Word → Byte) (j : Fin 5) :
    (pendingIn peek).getLsbD j.val = ((peek 0xFFFF).getLsbD j.val && (peek 0xFF0F).getLsbD j.val) := by
  have hmask : (0x1F : Byte).getLsbD j.val = true := by
    revert j
    decide
  rw [pendingIn, BitVec.getLsbD_and, BitVec.getLsbD_and, hmask, Bool.and_true]
  rfl

/-- The least type whose bit is set in both IE and IF is selected. -/
theorem selected_pendingIn {peek : Word → Byte} {i : Fin 5}
    (hset : (peek 0xFFFF).getLsbD i.val = true ∧ (peek 0xFF0F).getLsbD i.val = true)
    (hleast : ∀ j : Fin 5, j < i → ¬ ((peek 0xFFFF).getLsbD j.val = true ∧ (peek 0xFF0F).getLsbD j.val = true)) :
    selected (pendingIn peek) = some i := by
  rw [selected_eq_some_iff]
  refine ⟨?_, fun j hj => ?_⟩
  · rw [pendingIn_bit, Bool.and_eq_true]
    exact hset
  · rw [pendingIn_bit, ← Bool.not_eq_true, Bool.and_eq_true]
    exact hleast j hj

/-- What selects a type is not empty. -/
theorem ne_zero_of_selected {p : Byte} {i : Fin 5} (h : selected p = some i) : p ≠ 0 := by
  rintro rfl
  cases h

/-- A fetching or halted core with IME = 1 dispatches the type that is selected (47_system.md R265 part 4). -/
theorem action_dispatches {s : State} {p : Byte} {i : Fin 5} (hrun : s.run = .fetching ∨ s.run = .halted)
    (hime : s.ime = true) (hsel : selected p = some i) : s.action p = .dispatch i := by
  obtain hrun | hrun := hrun
  · rw [State.action, hrun]
    exact boundaryAction_dispatch hime hsel
  · rw [State.action, hrun]
    exact (if_neg (ne_zero_of_selected hsel)).trans (boundaryAction_dispatch hime hsel)

/-! ### when a step dispatches -/

/-- A step that reports an interrupt dispatched it: the core passed its boundary with IME = 1. -/
theorem stepWith_of_interrupt {vec : Fin 5 → Word} {s t : State} {i : Fin 5} (h : stepWith vec exec s = .next t)
    (hi : t.status = .interrupt i) :
    s.passes ∧ s.ime = true ∧ s.pending ≠ 0 ∧
      ∃ j, t = onFlat (dispatch vec j) { s with run := .fetching, bus := [] } := by
  obtain ⟨-, rfl⟩ | ⟨-, -, rfl⟩ | ⟨hpass, ⟨j, hime, hsel, rfl⟩ | ⟨-, v, rfl, hv⟩⟩ := stepWith_cases h
  · cases hi
  · cases hi
  · exact ⟨hpass, hime, ne_zero_of_selected hsel, j, rfl⟩
  · rw [consumeImePending_status] at hi
    exact absurd hi (exec_status_ne_interrupt hv i)

/-- A step with IME = 0 dispatches nothing. -/
theorem step_not_interrupt {s t : State} (hime : s.ime = false) (h : step s = .next t) (i : Fin 5) :
    t.status ≠ .interrupt i := by
  intro hi
  obtain ⟨-, htrue, -⟩ := stepWith_of_interrupt h hi
  rw [hime] at htrue
  cases htrue

/-- Settles O58: `stepWith_of_interrupt` one way, `step_dispatches` the other; a dispatch reads 0xFF0F alone. -/
theorem interruptTakenExactlyWhen : Obligations.InterruptTakenExactlyWhen := by
  intro s t hinv hstep
  obtain ⟨-, -, -, hnot⟩ := hinv
  refine ⟨⟨fun ⟨i, hi⟩ => ?_, fun ⟨hrun, hime, hpending⟩ => ?_⟩, fun ⟨i, hi⟩ hread => ?_⟩
  · obtain ⟨hpass, hime, hpending, -⟩ := stepWith_of_interrupt hstep hi
    refine ⟨?_, hime, hpending⟩
    obtain hrun | hrun | ⟨hrun, -⟩ := hpass
    · exact .inl hrun
    · exact absurd hrun hnot
    · exact .inr hrun
  · have hpass : s.passes := hrun.imp_right fun hrun => .inr ⟨hrun, hpending⟩
    obtain ⟨u, i, hu, hi⟩ := step_dispatches hpass hime hpending
    cases hstep.symm.trans hu
    exact ⟨i, hi⟩
  · obtain ⟨-, -, -, j, rfl⟩ := stepWith_of_interrupt hstep hi
    obtain ⟨-, -, ht⟩ := dispatch_spec { s with run := .fetching, bus := [] } Config.intVector j
    rw [ht] at hread
    simpa using hread

/-! ### what a dispatch does -/

/-- A dispatch on a platform: four accesses, and the registers that `dispatch` writes (60_exceptions.md R307). -/
theorem runOn_dispatch {σ : Type} (β : Bus σ) (vec : Fin 5 → Word) (i : Fin 5) (s u : State) (p : σ) :
    (u.runOn β (dispatch vec i s) p).1 = { s with
      ime := false, imePending := false, sp := s.sp - 2, pc := vec i, status := .interrupt i, cycles := 5
      bus := u.bus ++ [.read 0xFF0F, .write 0xFF0F (acknowledged (β.read p 0xFF0F).1 i),
        .write (s.sp - 1) (s.pc.extractLsb' 8 8), .write (s.sp - 2) (s.pc.extractLsb' 0 8)] } := by
  rw [← hi_eq_extract, ← lo_eq_extract, ← sub_two_add_one]
  simp only [State.runOn, BusProg.runOn_eq]
  rfl

/-- Settles O57: the selected type is dispatched (`action_dispatches`); `dispatch_spec` and `runOn_dispatch` say the rest. -/
theorem interruptDispatch : Obligations.InterruptDispatch := by
  refine ⟨fun vec s i hrun hime hset hleast => ?_, fun _ => rfl, fun σ P s p i hrun hime hset hleast => ?_⟩
  · have hstep : stepWith vec exec s = .next (onFlat (dispatch vec i) { s with run := .fetching, bus := [] }) := by
      have hact := action_dispatches (s := { s with bus := [] }) hrun hime (selected_pendingIn hset hleast)
      rw [stepWith_action, State.pending, hact]
    obtain ⟨hword, hframe, ht⟩ := dispatch_spec { s with run := .fetching, bus := [] } vec i
    exact ⟨_, _, hstep, acknowledged_bit _ i, hword, hframe, ht⟩
  · have hstep : stepOn P s p = .next (({ s with bus := [] } : State).runOn P.bus
        (dispatch P.intVector i { s with run := .fetching, bus := [] }) p) := by
      have hact := action_dispatches (s := { s with bus := [] }) hrun hime (selected_pendingIn hset hleast)
      rw [stepOn_action, hact]
    exact ⟨_, _, _, hstep, acknowledged_bit _ i, runOn_dispatch P.bus P.intVector i _ _ p⟩

end Sys2Proof.Machine
end

section
/-! SUPPORT. The system instructions and reset (47_system.md R270 to R276, 70_reset_and_hazards.md R340, R342). Each is a
fetching core's step (`step_of_fetching`) with the meaning of one row. -/

namespace Sys2Proof.Machine

/-! ### the prefix -/

/-- An extended instruction leaves PC alone. -/
theorem extProg_pc (e : ExtForm) (s : State) : (extProg e s).All fun t => t.pc = s.pc := by
  cases e with
  | rotReg op r => exact setReg_pc s r _
  | resReg i r => exact setReg_pc s r _
  | setBitReg i r => exact setReg_pc s r _
  | bitReg => exact rfl
  | rotAtHL | bitAtHL | resAtHL | setBitAtHL => exact fun _ => rfl

/-- Settles O56: the prefix is the extended row of the byte at PC, which leaves PC and the run state alone. -/
theorem prefixRunsTheExtendedInstruction : Obligations.PrefixRunsTheExtendedInstruction := by
  refine ⟨rfl, rfl, rfl, fun b => ?_, fun s hrun => ⟨exec_prefix_of_fetching hrun, ?_⟩⟩
  · obtain ⟨hprefix, -, -, -, -, -, hlegal⟩ := decodeExt_ordinary b
    exact ⟨hlegal, hprefix⟩
  · let e := extForm (s.peek s.pc)
    obtain ⟨hnext, hstatus⟩ := (extProg_run e s.pastByte).onFlat fun _ _ _ h => h
    obtain ⟨hlo, hhi⟩ := (extProg_cycles e s.pastByte).onFlat fun _ _ _ h => h
    have hpc := (extProg_pc e s.pastByte).onFlat fun _ _ _ h => h
    exact ⟨_, (exec_prefix_of_fetching hrun).trans (exec_extForm e s.pastByte), hnext.trans hrun, hstatus, hpc, hlo, hhi⟩

/-! ### illegal opcodes -/

/-- A faulting step consumes no delayed EI (47_system.md R265 part 5). -/
theorem consumeImePending_of_faulted {s : State} {b : Byte} (h : s.run = .faulted b) (p : Bool) :
    s.consumeImePending p = s := by
  rw [State.consumeImePending, h]

/-- Settles O55: the step raises the exception of the byte at PC (`exec_illegal_byte`) and consumes nothing. -/
theorem illegalOpcodeFaults : Obligations.IllegalOpcodeFaults := by
  refine ⟨fun s b hb => ?_, fun s b h => stepWith_faulted _ s b h, fun _ _ => rfl⟩
  obtain ⟨x, rfl⟩ := (exists_illegalOp_byte_iff b).2 hb
  refine ⟨encode_decodeBase _, by cases x <;> rfl, fun hrun hi hbyte => ?_⟩
  rw [step_of_fetching hrun hi, hbyte, exec_illegal_byte, finishInstruction, consumeImePending_of_faulted rfl]
  rfl

/-! ### STOP and HALT -/

/-- Settles O54: the meaning of STOP evaluates to the state named; a stopped core has one action. -/
theorem stopIsTerminal : Obligations.StopIsTerminal := by
  refine ⟨rfl, rfl, fun _ => rfl, fun s h => stepWith_stopped _ s h, fun _ _ => rfl, fun s h => ?_⟩
  rw [State.terminal, h]

/-- Settles O53: a halted core idles with nothing pending; else it is at a boundary that it passes. -/
theorem haltIdlesUntilAnEnabledRequest : Obligations.HaltIdlesUntilAnEnabledRequest := by
  refine ⟨rfl, rfl, fun _ => rfl, fun s hrun hnone => ?_, fun s hrun ⟨k, hk, hbits⟩ => ?_⟩
  · exact stepWith_halted_idle _ s hrun ((pending_eq_zero_iff s).2 hnone)
  · have hpending : s.pending ≠ 0 := fun hzero => (pending_eq_zero_iff s).1 hzero k hk hbits
    have hpass : s.passes := .inr (.inr ⟨hrun, hpending⟩)
    refine ⟨stepWith_awake _ s hpass, fun hime => ?_, fun hime => stepWith_execute _ s hpass (.inl hime)⟩
    obtain ⟨i, hsel⟩ := selected_pending_isSome s hpending
    obtain ⟨hword, -, ht⟩ := dispatch_spec { s with run := .fetching, bus := [] } Config.intVector i
    refine ⟨_, i, stepWith_dispatch _ s i hpass hime hsel, ?_, ?_⟩
    · rw [ht]
    · rw [congrArg State.sp ht]
      exact hword

/-! ### NOP, DI and EI -/

/-- EI marks the delayed enable (47_system.md R274). -/
theorem exec_ei (s : State) :
    exec .ei s = .next { s.reported 1 with imePending := if s.ime then s.imePending else true } := rfl

theorem exec_ei_of_disabled {s : State} (h : s.ime = false) :
    exec .ei s = .next { s.reported 1 with imePending := true } := by
  rw [exec_ei, h]
  rfl

theorem exec_ei_of_enabled {s : State} (h : s.ime = true) : exec .ei s = .next (s.reported 1) := by
  rw [exec_ei, if_pos h]
  rfl

theorem exec_di (s : State) : exec .di s = .next { s.reported 1 with ime := false, imePending := false } := rfl

/-- Only DI drops a waiting EI: any other instruction leaves it waiting, or has enabled IME itself (RETI). -/
theorem exec_keeps_pending {i : Instr} {s t : State} (h : exec i s = .next t) (hi : i ≠ .di) (hime : s.ime = false)
    (hpending : s.imePending = true) : t.imePending = true ∨ t.ime = true ∧ t.imePending = false := by
  by_cases hei : i = .ei
  · subst hei
    cases (exec_ei_of_disabled hime).symm.trans h
    exact .inl rfl
  · by_cases hreti : i = .reti
    · subst hreti
      cases (exec_row_of_leaves .reti (onFlat_reti s)).symm.trans h
      exact .inr ⟨rfl, rfl⟩
    · obtain ⟨-, hkeep⟩ := exec_ime h ⟨hi, hei, hreti⟩
      exact .inl (hkeep.trans hpending)

/-- The end of an instruction that does not fault consumes a waiting EI. -/
theorem consumeImePending_of_pending {s : State} (hrun : ∀ b, s.run ≠ .faulted b)
    (h : s.imePending = true ∨ s.ime = true ∧ s.imePending = false) :
    (s.consumeImePending true).ime = true ∧ (s.consumeImePending true).imePending = false := by
  rw [State.consumeImePending]
  split
  · next b hb => exact absurd hb (hrun b)
  · obtain hpending | ⟨hime, hpending⟩ := h
    · simp [hpending]
    · simp [hime, hpending]

/-- Where no EI waits, before the instruction and after it, its end changes nothing. -/
theorem consumeImePending_of_not_pending {s : State} {p : Bool} (h : (p && s.imePending) = false) :
    s.consumeImePending p = s := by
  rw [State.consumeImePending, h]
  split <;> rfl

/-- Only an illegal form faults. -/
theorem runAfter_ne_faulted {f : Form} (hf : ∀ x, f ≠ .illegal x) (b : Byte) : runAfter f .fetching ≠ .faulted b := by
  cases f with
  | illegal x => exact absurd rfl (hf x)
  | _ => exact nofun

/-- The step after EI: IME is 1 at its end, but for DI and for an illegal opcode (47_system.md R265 part 5, R274). -/
theorem step_with_pending {s t : State} (hrun : s.run = .fetching) (hime : s.ime = false) (hpending : s.imePending = true)
    (h : step s = .next t) :
    (decodeBase (s.peek s.pc) ∉ Instr.di :: illegalRows → t.ime = true ∧ t.imePending = false) ∧
    (decodeBase (s.peek s.pc) = .di → t.ime = false ∧ t.imePending = false) ∧
    (decodeBase (s.peek s.pc) ∈ illegalRows → t.ime = false) := by
  rw [step_of_fetching hrun (.inl hime), hpending] at h
  obtain ⟨v, hv, rfl⟩ := finishInstruction_next h
  refine ⟨fun hi => ?_, fun hi => ?_, fun hi => ?_⟩
  · rw [List.mem_cons, not_or, mem_illegalRows_iff, not_exists] at hi
    obtain ⟨hdi, hlegal⟩ := hi
    obtain ⟨hnext, -⟩ := exec_run hv
    refine consumeImePending_of_pending (fun b => ?_) (exec_keeps_pending hv hdi hime rfl)
    rw [hnext, hrun]
    exact runAfter_ne_faulted hlegal b
  · rw [hi] at hv
    cases (exec_di _).symm.trans hv
    rw [consumeImePending_of_not_pending rfl]
    exact ⟨rfl, rfl⟩
  · obtain ⟨x, hx⟩ := (decodeBase_mem_illegalRows_iff _).1 hi
    rw [← hx] at hv
    cases (exec_illegal_byte x _).symm.trans hv
    rw [consumeImePending_of_faulted rfl]
    exact hime

/-- Settles O51: the meanings evaluate; the step after EI is `step_with_pending`, and IME = 0 dispatches nothing. -/
theorem nopDiEi : Obligations.NopDiEi := by
  refine ⟨⟨rfl, rfl, rfl⟩, ⟨rfl, rfl, rfl⟩,
    fun s => ⟨rfl, rfl, exec_ei_of_disabled, exec_ei_of_enabled⟩, fun s t hrun hime hpending h => ?_, fun s t u hdi h => ?_⟩
  · exact ⟨step_not_interrupt hime h, step_with_pending hrun hime hpending h⟩
  · cases (exec_di s).symm.trans hdi
    exact ⟨rfl, step_not_interrupt rfl h⟩

/-! ### the delay of EI -/

/-- The step that executes EI with IME = 0 and no earlier EI waiting. -/
theorem step_ei {s t : State} (hrun : s.run = .fetching) (hime : s.ime = false) (hpending : s.imePending = false)
    (hbyte : s.peek s.pc = 0xFB) (h : step s = .next t) :
    t = { s with pc := s.pc + 1, imePending := true, status := .ran, cycles := 1, bus := [.read s.pc] } := by
  have hei : decodeBase 0xFB = .ei := rfl
  have hexec := exec_ei_of_disabled (s := { s with pc := s.pc + 1, bus := [.read s.pc] }) hime
  rw [step_of_fetching hrun (.inl hime), hbyte, hei, hexec, hpending, finishInstruction,
    consumeImePending_of_not_pending rfl] at h
  exact (Host.Outcome.next.inj h).symm

/-- The run state after a step of a fetching core that takes no interrupt. -/
theorem step_run {s t : State} (hrun : s.run = .fetching) (hi : s.ime = false ∨ s.pending = 0) (h : step s = .next t) :
    t.run = runAfter (formOf (decodeBase (s.peek s.pc))) .fetching := by
  rw [step_of_fetching hrun hi] at h
  obtain ⟨v, hv, rfl⟩ := finishInstruction_next h
  obtain ⟨hnext, -⟩ := exec_run hv
  rw [consumeImePending_run, hnext]
  exact congrArg _ hrun

/-- An instruction other than STOP and the illegal ones leaves a core that a request lets pass its boundary. -/
theorem runAfter_fetching_or_halted {i : Instr} (hstop : i ≠ .stop) (hlegal : i ∉ illegalRows) :
    runAfter (formOf i) .fetching = .fetching ∨ runAfter (formOf i) .fetching = .halted := by
  rw [mem_illegalRows_iff, not_exists] at hlegal
  have hform : formOf i ≠ .stop := ne_of_row_ne (f := .stop) hstop
  cases hf : formOf i with
  | stop => exact absurd hf hform
  | illegal x => exact absurd hf (hlegal x)
  | halt => exact .inr rfl
  | _ => exact .inl rfl

/-- Settles O52: `step_ei`, then `step_with_pending`, then a boundary that a request lets the core pass, or IME = 0. -/
theorem enableDelayLetsOneInstructionRun : Obligations.EnableDelayLetsOneInstructionRun := by
  intro s t u hrun hime hpending hbyte hs ht
  have hei := step_ei hrun hime hpending hbyte hs
  have hrun' : t.run = .fetching := by rw [hei]; exact hrun
  have hime' : t.ime = false := by rw [hei]; exact hime
  have hpending' : t.imePending = true := by rw [hei]
  obtain ⟨hother, hdi, -⟩ := step_with_pending hrun' hime' hpending' ht
  refine ⟨by rw [hei], by rw [hei], hime', hpending', by rw [hei], step_not_interrupt hime' ht, fun hi hreq => ?_,
    fun hi => ?_⟩
  · rw [List.mem_cons, List.mem_cons, not_or, not_or] at hi
    obtain ⟨hnotdi, hstop, hlegal⟩ := hi
    obtain ⟨himeu, -⟩ := hother (List.not_mem_cons_of_ne_of_not_mem hnotdi hlegal)
    have hrunu := runAfter_fetching_or_halted hstop hlegal
    rw [← step_run hrun' (.inl hime') ht] at hrunu
    exact step_dispatches (hrunu.imp_right fun hhalted => .inr ⟨hhalted, hreq⟩) himeu hreq
  · obtain ⟨himeu, hpendingu⟩ := hdi hi
    exact ⟨himeu, hpendingu, fun v hv => step_not_interrupt himeu hv⟩

/-! ### reset -/

/-- Settles O60: the fields are those of `State.resetWith`, and the first step is that of a fetching core with IME = 0. -/
theorem resetEventLeaves : Obligations.ResetEventLeaves := by
  intro s r t
  exact ⟨⟨rfl, rfl, rfl, rfl, rfl⟩, resetFlags_nibbles r.flags, ⟨rfl, rfl, rfl, rfl, rfl, rfl, rfl, rfl⟩,
    step_of_fetching (s := t) rfl (.inl rfl)⟩

end Sys2Proof.Machine
end
